-- ==== Sys2Proof/Word.lean ====
section
/-! DEFINITION. The widths of 00_scope.md R8: bytes, 16-bit words and 64-bit ticks. -/

namespace Sys2Proof

/-- An 8-bit unsigned value (R8). -/
abbrev Byte := BitVec 8

/-- A 16-bit unsigned value: a memory address or a port address (R8, R80, R82). -/
abbrev Word := BitVec 16

/-- A 64-bit unsigned tick count (R8, R435). -/
abbrev Tick := BitVec 64

end Sys2Proof
end

