-- ==== Sys2Proof/Syntax.lean ====
section
/-! DEFINITION. The operations of the block: one constructor of `Instr` per row of spec/opcode_table.json, and the
types of their operands (30_encoding.md R120). -/

namespace Sys2Proof

/-- A peripheral object other than the FDC: one of the two expansion sound chips (44_sound.md R310) or any other
card or cartridge, told apart by a number (46_backplane.md R400). -/
inductive Dev where
  | xsnd6
  | xsnd4
  | other (n : Nat)
  deriving DecidableEq, Repr

/-- A peripheral of the backplane (46_backplane.md R400): the FDC card of 45_fdc.md, or another one. -/
inductive Periph where
  | fdc
  | dev (d : Dev)
  deriving DecidableEq, Repr

/-- Where a peripheral is installed: a backplane slot or the cartridge socket (R402, R404). -/
inductive Socket where
  | slot (k : Fin 4)
  | cart
  deriving DecidableEq, Repr

/-- A backing store of the debug space, one per distinct store (20_memory.md R83, 40_memory_bus.md R174). -/
inductive DbgStore where
  | sys
  | extRom
  | userRam
  | videoRam
  | cart
  | card (k : Fin 4)
  deriving DecidableEq, Repr

/-- A sound generator RENDER can be called on: the built-in one or an expansion chip (44_sound.md R305, R312). -/
inductive Gen where
  | builtin
  | xsnd6
  | xsnd4
  deriving DecidableEq, Repr

/-- The identity of a port reader (00_scope.md R10, 41_portbus.md R199). `fdcLines` is the FDC's reader of INTRQ and DRQ
(45_fdc.md R390). `ext n` is a handler of the host's own. -/
inductive Reader where
  | kbd
  | intStat
  | cardId
  | ackStat
  | crtcData
  | fdcStatus
  | fdcTrack
  | fdcSector
  | fdcData
  | fdcLines
  | dev (d : Dev)
  | ext (n : Nat)
  deriving DecidableEq, Repr

/-- The identity of a port writer (R10, R199). -/
inductive Writer where
  | border
  | paging
  | extSel
  | page3
  | sndFreqL
  | sndFreqH
  | sndVol
  | intClr
  | pal (i : Fin 4)
  | crtcAddr
  | crtcData
  | gfxMode
  | fdcCmd
  | fdcTrack
  | fdcSector
  | fdcData
  | fdcCtrl
  | dev (d : Dev)
  | ext (n : Nat)
  deriving DecidableEq, Repr

/-- The identity of a reset handler (R10, R199). -/
inductive Resetter where
  | mapper
  | fdc
  | dev (d : Dev)
  | ext (n : Nat)
  deriving DecidableEq, Repr

/-- A command byte's meaning (30_encoding.md R146 to R148). Fields are named as there; `x` is an ignored bit, kept
because `fcmd` holds the whole byte (10_state.md R58). -/
inductive FdcCommand where
  | restore (h v : Bool) (r : BitVec 2)
  | seek (h v : Bool) (r : BitVec 2)
  | step (u h v : Bool) (r : BitVec 2)
  | stepin (u h v : Bool) (r : BitVec 2)
  | stepout (u h v : Bool) (r : BitVec 2)
  | readsec (m sv e c x0 : Bool)
  | writesec (m sv e c a0 : Bool)
  | readaddr (x3 e x1 x0 : Bool)
  | forceint (i : BitVec 4)
  | readtrk (x3 e x1 x0 : Bool)
  | writetrk (x3 e x1 x0 : Bool)
  deriving DecidableEq, Repr

/-- The operations of the block, in the order of spec/opcode_table.json. A row that names a port handler is that
handler's rule; a row of format FDC_CMD is a write of that command byte to the FDC's window offset +0 (log 12). -/
inductive Instr where
  -- memory transactions (40_memory_bus.md)
  | memrd (a : Word)
  | memwr (a : Word) (v : Byte)
  | dbgrd (d : DbgStore) (pg o : Nat)
  | dbgwr (d : DbgStore) (pg o : Nat) (v : Byte)
  -- port transactions and the registry (41_portbus.md)
  | portrd (a : Word)
  | portwr (a : Word) (v : Byte)
  | busreset
  | addreader (p : Byte) (h : Reader)
  | addwriter (p : Byte) (h : Writer)
  | addreset (p : Byte) (h : Resetter)
  | removereader (p : Byte) (h : Reader)
  | removewriter (p : Byte) (h : Writer)
  | removereset (p : Byte) (h : Resetter)
  -- host operations
  | renderline
  | render (g : Gen) (buf : List (Int × Int)) (b e : Nat)
  | periodic (t : Tick)
  | install (k : Socket) (p : Periph)
  | remove (k : Socket)
  | mstoticks (ms : Nat)
  | ustoticks (us : Nat)
  | tickstoms (t : Nat)
  | getticks
  | tickssince (start : Tick)
  | reset
  -- base-machine port handlers (42_system_ports.md, 43_video.md, 44_sound.md, 46_backplane.md)
  | outBorder (v : Byte)
  | outPaging (v : Byte)
  | outExtsel (v : Byte)
  | outPage3 (v : Byte)
  | outSndfreql (v : Byte)
  | outSndfreqh (v : Byte)
  | outSndvol (v : Byte)
  | outIntclr (v : Byte)
  | inKbd
  | inIntstat
  | inCardid
  | inAckstat
  | outPal0 (v : Byte)
  | outPal1 (v : Byte)
  | outPal2 (v : Byte)
  | outPal3 (v : Byte)
  | outCrtcaddr (v : Byte)
  | outCrtcdata (v : Byte)
  | inCrtcdata
  | outGfxmode (v : Byte)
  | inCardwin (w : Fin 4) (k : Fin 16) (hi : Byte)
  | outCardwin (w : Fin 4) (k : Fin 16) (hi v : Byte)
  -- FDC window registers (45_fdc.md section 1)
  | fdcCmdW (v : Byte)
  | fdcStatusR
  | fdcTrackW (v : Byte)
  | fdcTrackR
  | fdcSectorW (v : Byte)
  | fdcSectorR
  | fdcDataW (v : Byte)
  | fdcDataR
  | fdcCtrlW (v : Byte)
  -- FDC commands (30_encoding.md R146 to R148); fields named as there, `x` an ignored bit
  | fdcRestore (h v : Bool) (r : BitVec 2)
  | fdcSeek (h v : Bool) (r : BitVec 2)
  | fdcStep (u h v : Bool) (r : BitVec 2)
  | fdcStepin (u h v : Bool) (r : BitVec 2)
  | fdcStepout (u h v : Bool) (r : BitVec 2)
  | fdcReadsec (m sv e c x0 : Bool)
  | fdcWritesec (m sv e c a0 : Bool)
  | fdcReadaddr (x3 e x1 x0 : Bool)
  | fdcForceint (i : BitVec 4)
  | fdcReadtrk (x3 e x1 x0 : Bool)
  | fdcWritetrk (x3 e x1 x0 : Bool)
  deriving DecidableEq, Repr

end Sys2Proof
end

