-- ==== Sys2Proof/Config.lean ====
section
/-! DEFINITION. The configuration record of 00_scope.md R6 (table T1) and the free values of R9. Every parameter the
spec leaves OPEN is a field of `Cfg`; the machine's own record is the constant `Config.cfg`, which has no body. A
constraint of table T1 (a positive count, a bound) is met by construction: the raw field is read through an
accessor that maps every raw value to a legal one and reaches every legal one (log 6). -/

namespace Sys2Proof

/-- The hardware revision `HwRev`: at least `plain` and `videoAlias` (table T1, 92 D7). -/
inductive HwRev where
  | plain
  | videoAlias
  | other (n : Nat)
  deriving DecidableEq, Repr, Inhabited

/-- The tag of a page binding (10_state.md R32). -/
inductive Tag where
  | sys
  | ext
  | u (k : Fin 4)
  | vid (b : Nat)
  | cart
  | card (k : Fin 4)
  deriving DecidableEq, Repr, Inhabited

/-- The pixel unpack path (30_encoding.md R142). -/
inductive GfxMode where
  | m2
  | m4
  | m16
  deriving DecidableEq, Repr, Inhabited

/-- An output pixel value in the host's own format, as a number (43_video.md R265). -/
abbrev Pixel := Nat

/-- A disk image: its bytes in block order and its write protection (30_encoding.md R160, 45_fdc.md R392, log 24; when the
host gives it, and that no two drives share one: log 43). -/
structure Image where
  bytes : List Byte
  wp : Bool
  deriving DecidableEq, Repr, Inhabited

/-- A drive's geometry (10_state.md R66). -/
structure Geom where
  tracks : Nat
  sides : Nat
  sectorsPerTrack : Nat
  sectorLen : Nat
  deriving DecidableEq, Repr, Inhabited

/-- What `P_DRIVES` gives for one drive (10_state.md R66). -/
structure DriveCfg where
  geom : Geom
  logicalTracks : Nat
  image : Option Image
  deriving DecidableEq, Repr, Inhabited

/-- A registration a handler makes or undoes through the bus (41_portbus.md R193 to R198). -/
inductive RegOp where
  | addReader (p : Byte) (h : Reader)
  | addWriter (p : Byte) (h : Writer)
  | addReset (p : Byte) (h : Resetter)
  | removeReader (p : Byte) (h : Reader)
  | removeWriter (p : Byte) (h : Writer)
  | removeReset (p : Byte) (h : Resetter)
  deriving DecidableEq, Repr

/-- `P_PAGE_DECODE` (20_memory.md R86). `bitOrder` places the four pages' fields on port02: page p's field has bit 0
at `bitOrder (2p)` and, when `wide p`, bit 1 at `bitOrder (2p+1)`, so the fields are disjoint (R86 (a), log 7). Page 1's
tag may depend on the revision, its field, port03 (where 42_system_ports.md R216 lets it, log 45) and pagePort3. -/
structure PagingCfg where
  bitOrder : Equiv.Perm (Fin 8)
  wide : Fin 4 → Bool
  cartCode : BitVec 2
  page0 : BitVec 2 → Option Tag
  page1 : HwRev → BitVec 2 → Byte → Byte → Option Tag
  page2 : BitVec 2 → Option Tag
  page3 : BitVec 2 → Option Tag
  deriving Inhabited

/-- The memory, paging and port parameters of table T1. -/
structure MemCfg where
  sysRomImage : Option (List Byte)
  sysRomSize : Nat
  extRomImage : Option (List Byte)
  extRomSize : Nat
  vidBanksPred : Nat
  extSplit : Nat
  extSel : Byte → Fin 4
  pagePort3 : Option Byte
  intStatusBit : Fin 8
  intStatusLow : Bool
  kbdRow : Byte → Fin 16
  tapeMotorBit : Fin 8
  dbgAddress : DbgStore → Word
  dbgPageIndex : DbgStore → Nat
  deriving Inhabited

/-- The video parameters of table T1. -/
structure VideoCfg where
  gfxPort : Byte
  gfxMode : Byte → GfxMode
  videoAddr : BitVec 14 → BitVec 2 → BitVec 14
  unpack4 : Byte → Fin 4 → Fin 4
  unpack16 : Byte → Fin 2 → BitVec 4
  color : Byte → Pixel
  dim : Pixel → Pixel
  crtcValid : Nat → Nat → Nat → Bool
  linesPerFramePred : Nat
  ticksPerLinePred : Nat
  firstVisible : Nat
  frameWidth : Nat
  leftBorder : Nat
  rightBorder : Nat
  crtcRead : Fin 32 → Bool
  dispBankOther : HwRev → Byte → Byte → Byte → Byte → Nat
  deriving Inhabited

/-- `P_SND`, the built-in sound generator (44_sound.md R291 to R300). -/
structure SndCfg where
  prescalePred : Nat
  postLenPred : Nat
  enable : Byte → Byte → Bool
  volume : Byte → Byte → BitVec 4
  dac : Nat → Nat → BitVec 4 → Bool → Int
  irq : Fin 2 → Nat → Byte → Byte → Bool
  div1 : Byte → Byte → Byte → BitVec 12
  deriving Inhabited

/-- The FDC parameters of table T1 (45_fdc.md, 47_timing.md R438). The index period is
`indexWidth + 1 + indexGap`, which is greater than the width. `P_FDC_CTRL` has its two fields of T1 here, and with them
what 45_fdc.md R390 leaves open: `linesPort` is the window port, if any, at which the card shows INTRQ and DRQ, and
`linesByte` the byte a read there gives, from INTRQ, DRQ and the in/out byte (that it has no side effect: log 41). `getId`
is no parameter of T1: it is the FDC card's ID byte, one constant of the configuration (DESIGN CHOICE, log 40). -/
structure FdcCfg where
  fast : Bool
  stepTicksPred : BitVec 2 → Nat
  byteTicksPred : Nat
  indexWidthPred : Nat
  indexGap : Nat
  ctrlOffset : Fin 16
  ctrlDecode : Byte → Option (Fin 4) × Fin 2
  linesPort : Option (Fin 16)
  linesByte : Bool → Bool → Byte → Byte
  drives : Fin 4 → Option DriveCfg
  getId : Byte
  deriving Inhabited

/-- An access to a peripheral's registers (46_backplane.md R400). -/
inductive Access where
  | portRead (a : Word) (v : Byte)
  | portWrite (a : Word) (v : Byte)
  | memRead (o : BitVec 14)
  | memWrite (o : BitVec 14) (v : Byte)
  | reset
  deriving DecidableEq, Repr

/-- What an access does to one channel of a sound chip: a half of its octave and divisor register pair is written, or
its divider starts again (44_sound.md R310, R311). -/
inductive ToneWrite where
  | octave (channel n : Nat)
  | divisor (channel n : Nat)
  | phase (channel n : Nat)
  deriving DecidableEq, Repr

/-- The behaviour of the peripherals the spec gives a contract only (46_backplane.md R400, 44_sound.md R310): each
acts on its own state, a number that codes the state's open layout (log 14). A port access, a window access and a Reset
see the tick counter, which 47_timing.md exposes to peripherals; PeriodicCallback gets its own tick. No function makes
registrations while the peripheral is installed, the ports it registers at its Install depend on it and the slot only, and
an ID and a debug view follow from the state alone (DESIGN CHOICE, log 44). `removal` is what the Remove of a numbered
peripheral asks of the bus, of any identity on any port (41_portbus.md R202). `periodic` is read through `Cfg.periodic`.
The last fields are the two sound chips'
models `P_XSND6` and `P_XSND4` (log 17): what an access writes to the register pairs; a channel's frequency divider,
which from octave, divisor and its own phase gives, for one tick, the new phase and the number of wraps (R311); one
tick of the rest of the chip, which sees the channels' wraps (R312); and the stereo level of a state. -/
structure DevCfg where
  powerOn : Dev → Nat
  hasMem : Dev → Bool
  memRead : Dev → Nat → Tick → BitVec 14 → Byte × Nat
  memWrite : Dev → Nat → Tick → BitVec 14 → Byte → Nat
  readPorts : Dev → Fin 4 → List (Fin 16)
  writePorts : Dev → Fin 4 → List (Fin 16)
  removal : Nat → Socket → Nat → Tick → List RegOp
  portRead : Dev → Nat → Tick → Word → Byte → Byte × Nat
  portWrite : Dev → Nat → Tick → Word → Byte → Nat
  reset : Dev → Nat → Tick → Nat
  periodic : Nat → Nat → Tick → Nat
  getId : Dev → Nat → Byte
  debugRead : Dev → Nat → Nat → Option Byte
  toneWrites : Dev → Nat → Access → List ToneWrite
  tonePowerOn : Dev → Nat → Nat × Nat × Nat
  divider : Dev → Nat → Nat → Nat → Nat → Nat × Nat
  chipTick : Dev → Nat → List Nat → Tick → Nat
  chipLevel : Dev → Nat → Int × Int
  deriving Inhabited

/-- The behaviour of port handlers the host registers itself (41_portbus.md R199, R200): a handler changes its own
state and makes registrations through the bus. Beside its arguments it reads its own state and the tick counter, and no
other state (DESIGN CHOICE, log 15). -/
structure ExtCfg where
  read : Nat → Nat → Tick → Word → Byte → Byte × Nat × List RegOp
  write : Nat → Nat → Tick → Word → Byte → Nat × List RegOp
  reset : Nat → Nat → Tick → Nat × List RegOp
  deriving Inhabited

/-- `Cfg` (00_scope.md R6), with the free values of R9: `freeByte n` and `freeNat n` are the n-th draw (log 11), and
`freeSamples n` is a sample buffer the spec states no contents for (log 35). -/
structure Cfg where
  rev : HwRev
  clockHzPred : Nat
  sampleRatePred : Nat
  mem : MemCfg
  paging : PagingCfg
  video : VideoCfg
  snd : SndCfg
  fdc : FdcCfg
  dev : DevCfg
  ext : ExtCfg
  cards : Fin 4 → Option Periph
  cart : Option Nat
  freeByte : Nat → Byte
  freeNat : Nat → Nat
  freeSamples : Nat → List (Int × Int)
  deriving Inhabited

namespace Cfg

/-- `P_CLOCK_HZ`, positive. -/
def clockHz (c : Cfg) : Nat := c.clockHzPred + 1

/-- `P_SAMPLE_RATE`, positive. -/
def sampleRate (c : Cfg) : Nat := c.sampleRatePred + 1

/-- `P_VID_BANKS`, at least 1. -/
def vidBanks (c : Cfg) : Nat := c.mem.vidBanksPred + 1

/-- `P_LINES_PER_FRAME`, positive. -/
def linesPerFrame (c : Cfg) : Nat := c.video.linesPerFramePred + 1

/-- `P_TICKS_PER_LINE`, positive. No rule reads it (43_video.md R272). -/
def ticksPerLine (c : Cfg) : Nat := c.video.ticksPerLinePred + 1

/-- The system ports with a reader and no writer (42_system_ports.md R234). -/
def readOnlyPort (p : Byte) : Bool := p ∈ [0x58#8, 0x59#8, 0x5A#8, 0x5B#8]

/-- The port of the graphics-mode latch, a parameter (30_encoding.md R142), never a port whose writes have no effect
(42_system_ports.md R230, R234, log 6). -/
def gfxPort (c : Cfg) : Byte := if readOnlyPort c.video.gfxPort then 0x06#8 else c.video.gfxPort

/-- `P_PAGE_PORT3`, never a port whose writes have no effect (R230, R234, log 6). -/
def pagePort3 (c : Cfg) : Option Byte := c.mem.pagePort3.filter fun p => !readOnlyPort p

/-- `P_SND.prescale`, positive. -/
def prescale (c : Cfg) : Nat := c.snd.prescalePred + 1

/-- `P_SND.postLen`, positive. -/
def postLen (c : Cfg) : Nat := c.snd.postLenPred + 1

/-- `P_STEP_TICKS[r]`, at least 1 (47_timing.md R438). -/
def stepTicks (c : Cfg) (r : BitVec 2) : Nat := c.fdc.stepTicksPred r + 1

/-- `P_BYTE_TICKS`, at least 1 (R438). -/
def byteTicks (c : Cfg) : Nat := c.fdc.byteTicksPred + 1

/-- `P_INDEX_WIDTH`, at least 1 (R436, R438). -/
def indexWidth (c : Cfg) : Nat := c.fdc.indexWidthPred + 1

/-- `P_INDEX_PERIOD`, greater than the width (R436). -/
def indexPeriod (c : Cfg) : Nat := c.indexWidth + 1 + c.fdc.indexGap

/-- `P_LOST_DATA`: the decision 92 D36. -/
def lostData (_ : Cfg) : Bool := false

/-- `P_EMPTY_ID`: the decision 92 D20. -/
def emptyId (_ : Cfg) : BitVec 2 := 0b11#2

/-- `P_PORT_IDLE`: the decision 92 D3. -/
def portIdle (_ : Cfg) : Byte := 0xFF#8

/-- A ROM store: the image, or all 0xFF when it failed to load (10_state.md R35). -/
def romStore (image : Option (List Byte)) (size : Nat) : List Byte :=
  match image with
  | some b => b
  | none => List.replicate size 0xFF#8

/-- `P_SYS_ROM`, at most 16384 bytes (table T1). -/
def sysRom (c : Cfg) : List Byte := (romStore c.mem.sysRomImage c.mem.sysRomSize).take 16384

/-- `P_EXT_ROM`. -/
def extRom (c : Cfg) : List Byte := romStore c.mem.extRomImage c.mem.extRomSize

/-- `P_DISP_BANK`: bank 0 for `plain`, open for other revisions (20_memory.md R94, log 21). The latches it may read there
are port02, port03, pagePort3 and gfxLatch, and no other (DESIGN CHOICE, log 42). -/
def dispBank (c : Cfg) (port02 port03 page3 gfx : Byte) : Nat :=
  match c.rev with
  | .plain => 0
  | r => c.video.dispBankOther r port02 port03 page3 gfx % c.vidBanks

/-- PeriodicCallback(t) of numbered peripheral n in state x. A second call at the same tick does nothing new
(46_backplane.md R410): a raw result that the raw function does not keep at that tick counts as no change, so every
callback here is idempotent at a tick, and every idempotent one is reached (log 6, log 14). -/
def periodic (c : Cfg) (n x : Nat) (t : Tick) : Nat :=
  let y := c.dev.periodic n x t
  if c.dev.periodic n y t = y then y else x

end Cfg

/-- The machine's configuration: fixed, never changed, and with no value in this spec (R6). A statement about it holds
for every configuration. -/
opaque Config.cfg : Cfg

end Sys2Proof
end

