-- ==== Sys2Proof/Machine/Memory.lean ====
section
/-! DEFINITION. The mutable stores (10_state.md R33, R34) as one list of cells in canonical form, and the maps the model
keeps for numbered peripherals. -/

namespace Sys2Proof.Machine

/-- User RAM and video RAM: cells at rising addresses, none holding `Memory.blank`. -/
abbrev Memory := List Host.Cell

/-- What a byte that nothing has written reads as: 0x00 (DESIGN CHOICE, unsafe: the spec gives a draw, log 8). -/
def Memory.blank : Byte := 0x00#8

/-- The byte at an address. -/
def Memory.read : Memory → Nat → Byte
  | [], _ => Memory.blank
  | (b, v) :: m, a => if a = b then v else Memory.read m a

/-- A cell put in its place, or taken out when it would hold `Memory.blank`. -/
def Memory.write : Memory → Nat → Byte → Memory
  | [], a, v => if v = Memory.blank then [] else [(a, v)]
  | (b, w) :: m, a, v =>
    if a < b then (if v = Memory.blank then (b, w) :: m else (a, v) :: (b, w) :: m)
    else if a = b then (if v = Memory.blank then m else (a, v) :: m)
    else (b, w) :: Memory.write m a v

/-- Every address of a memory lies above `n`. -/
def Memory.above (n : Nat) : Memory → Bool
  | [] => true
  | (a, _) :: _ => decide (n < a)

/-- The canonical form: addresses strictly rise and no cell holds `Memory.blank`. -/
def Memory.wf : Memory → Bool
  | [] => true
  | (a, v) :: m => decide (v ≠ Memory.blank) && Memory.above a m && Memory.wf m

/-- The cell of `u[k][o]`. -/
def userCell (k : Fin 4) (o : BitVec 14) : Nat := 0x4000 * k.val + o.toNat

/-- The cell of `vid[b][o]`. -/
def videoCell (b : Nat) (o : BitVec 14) : Nat := 0x10000 + 0x4000 * b + o.toNat

/-- A map from numbers to numbers, at rising keys. -/
abbrev NatMap := List (Nat × Nat)

/-- The value at a key, if any. -/
def NatMap.find : NatMap → Nat → Option Nat
  | [], _ => none
  | (b, v) :: m, a => if a = b then some v else NatMap.find m a

/-- A value put at a key. -/
def NatMap.put : NatMap → Nat → Nat → NatMap
  | [], a, v => [(a, v)]
  | (b, w) :: m, a, v =>
    if a < b then (a, v) :: (b, w) :: m
    else if a = b then (a, v) :: m
    else (b, w) :: NatMap.put m a v

/-- A key taken out. -/
def NatMap.drop (m : NatMap) (a : Nat) : NatMap := m.filter fun p => decide (p.1 ≠ a)

/-- A byte of a ROM store: beyond the image, 0xFF (20_memory.md R91). -/
def romByte (r : List Byte) (i : Nat) : Byte := (r[i]?).getD 0xFF#8

end Sys2Proof.Machine
end

