-- ==== Sys2Proof/Machine/Paging.lean ====
section
/-! DEFINITION. The paging decode (20_memory.md R81, R85 to R87): from the paging latches to the tag of each page. -/

namespace Sys2Proof.Machine

/-- `page(a) = a[15:14]` (R81). -/
def pageOf (a : Word) : Fin 4 := ⟨(a.extractLsb' 14 2).toNat, (a.extractLsb' 14 2).isLt⟩

/-- `off(a) = a[13:0]` (R81). -/
def offsetOf (a : Word) : BitVec 14 := a.extractLsb' 0 14

/-- The value of page p's field `F_p` of port02 (R86 (a)). -/
def pageField (c : Cfg) (p : Fin 4) (v : Byte) : BitVec 2 :=
  let lo := v.getLsbD (c.paging.bitOrder ⟨2 * p.val, by omega⟩).val
  let hi := c.paging.wide p && v.getLsbD (c.paging.bitOrder ⟨2 * p.val + 1, by omega⟩).val
  BitVec.ofBool hi ++ BitVec.ofBool lo

/-- The code of page 0 that selects the cartridge, a non-zero value its field can take (R86 (d)). -/
def cartCode (c : Cfg) : BitVec 2 :=
  if c.paging.wide 0 then (if c.paging.cartCode = 0#2 then 1#2 else c.paging.cartCode) else 1#2

/-- `P_PAGE_DECODE` of the pages but page 1, before the fallback: port02 alone decides (R86 (b)). Page 0 shows SYS at
code 0 (R86 (c)) and the cartridge at `cartCode` (R86 (d)). -/
def fixedTag (c : Cfg) (port02 : Byte) (p : Fin 4) : Option Tag :=
  let f := pageField c p port02
  if p = 0 then
    if f = 0#2 then some .sys
    else if f = cartCode c then some .cart
    else c.paging.page0 f
  else if p = 2 then c.paging.page2 f
  else c.paging.page3 f

/-- The table shows `EXT` on a page other than page 1, whatever port02 holds. -/
def alwaysExt (c : Cfg) : Bool := decide (∀ port02 : Byte, ∃ p : Fin 4, p ≠ 1 ∧ fixedTag c port02 p = some .ext)

/-- `P_PAGE_DECODE` before the fallback. Only page 1 depends on the revision and the other latches (R86 (b)). It depends
on port03 only under a table that never leaves all pages off `EXT`: with no page bound to `EXT`, a write to 0x03 changes
no binding (42_system_ports.md R216; DEDUCED, log 45). -/
def rawTag (c : Cfg) (port02 port03 page3 : Byte) (p : Fin 4) : Option Tag :=
  if p = 1 then c.paging.page1 c.rev (pageField c 1 port02) (if alwaysExt c then port03 else 0#8) page3
  else fixedTag c port02 p

/-- `Decode` (R85): an undefined value or a video bank that does not exist falls back to `U(p)` (R87). -/
def decodePage (c : Cfg) (port02 port03 page3 : Byte) (p : Fin 4) : Tag :=
  match rawTag c port02 port03 page3 p with
  | some (.vid b) => if b < c.vidBanks then .vid b else .u p
  | some t => t
  | none => .u p

/-- The page table of the latches (R85). -/
def decodePages (c : Cfg) (port02 port03 page3 : Byte) : Vector Tag 4 :=
  Vector.ofFn (decodePage c port02 port03 page3)

end Sys2Proof.Machine
end

