-- ==== Sys2Proof/WellFormed.lean ====
section
/-! DEFINITION. The operand ranges the rules state that do not depend on the state. An operation outside them still
runs: what the spec states no value for is a free value there (log 35). -/

namespace Sys2Proof

/-- The range of RENDER (44_sound.md R305): `s ≤ e`, and a buffer with a place for every sample. -/
def renderRange (buf : List (Int × Int)) (b e : Nat) : Bool := decide (b ≤ e) && decide (e - b ≤ buf.length)

/-- RENDER's operands are in the range of R305. Every other operand is stated at every value. -/
def Instr.wellFormed : Instr → Bool
  | .render _ buf b e => renderRange buf b e
  | _ => true

end Sys2Proof
end

