-- ==== Sys2Proof/Decode.lean ====
section
/-! DEFINITION. Decoding and encoding of operations. What the spec decodes is the slot of a port address (30_encoding.md
R121, R130), the FDC window offset (R145) and the FDC command byte (R146); an operation itself is selected by its name
(R155). The bytes that carry the name and the operands of R120 from the host to the block are the model's (log 1):
one byte names the operation, then come the operands in the order of R120, an address or tick low byte first, a Nat in
base 128 with a continuation bit. -/

namespace Sys2Proof

/-- Why bytes are no operation. -/
inductive DecodeError where
  /-- no byte at all -/
  | empty
  /-- the first byte names no operation -/
  | unknownOperation (b : Byte)
  /-- the bytes end before the operands do -/
  | truncated
  /-- bytes are left after the operands -/
  | trailing
  /-- an operand byte outside its range -/
  | badOperand (b : Byte)
  /-- a port number the base machine registers no such handler on (R130) -/
  | noPortRow (slot : Byte)
  /-- a window offset that holds no FDC register (R145) -/
  | noFdcRegister (offset : Byte)
  deriving DecidableEq, Repr

/-- A reader of operands: from bytes, a value and the rest. -/
abbrev Parse (α : Type) := List Byte → Except DecodeError (α × List Byte)

/-- The reader that takes no byte. -/
def Parse.ret {α : Type} (x : α) : Parse α := fun l => .ok (x, l)

/-- One reader after another. -/
def Parse.andThen {α β : Type} (p : Parse α) (f : α → Parse β) : Parse β := fun l =>
  match p l with
  | .ok (x, r) => f x r
  | .error e => .error e

/-- A reader that always fails. -/
def Parse.fail {α : Type} (e : DecodeError) : Parse α := fun _ => .error e

/-! ### Bytes and numbers -/

/-- One byte. -/
def parseByte : Parse Byte
  | [] => .error .truncated
  | b :: r => .ok (b, r)

/-- A 16-bit value, low byte first. -/
def parseWord : Parse Word :=
  parseByte.andThen fun lo => parseByte.andThen fun hi => .ret (hi ++ lo)

/-- The bytes of a 16-bit value, low byte first. -/
def encodeWord (a : Word) : List Byte := [a.extractLsb' 0 8, a.extractLsb' 8 8]

/-- A 64-bit tick, low byte first. -/
def parseTick : Parse Tick :=
  parseWord.andThen fun w0 => parseWord.andThen fun w1 => parseWord.andThen fun w2 => parseWord.andThen fun w3 =>
    .ret (w3 ++ w2 ++ w1 ++ w0)

/-- The bytes of a tick, low byte first. -/
def encodeTick (t : Tick) : List Byte :=
  encodeWord (t.extractLsb' 0 16) ++ encodeWord (t.extractLsb' 16 16) ++ encodeWord (t.extractLsb' 32 16) ++
    encodeWord (t.extractLsb' 48 16)

/-- A Nat in base 128, low digit first; a byte of 128 or more is followed by another digit. -/
def parseNat : Parse Nat
  | [] => .error .truncated
  | b :: r =>
    if b.toNat < 128 then .ok (b.toNat, r)
    else
      match parseNat r with
      | .ok (n, r') => .ok (b.toNat - 128 + 128 * n, r')
      | .error e => .error e

/-- The digits of a Nat, with fuel for at least as many digits as it has. -/
def encodeNatFuel : Nat → Nat → List Byte
  | 0, n => [BitVec.ofNat 8 (n % 128)]
  | f + 1, n =>
    if n < 128 then [BitVec.ofNat 8 n]
    else BitVec.ofNat 8 (n % 128 + 128) :: encodeNatFuel f (n / 128)

/-- The bytes of a Nat. -/
def encodeNat (n : Nat) : List Byte := encodeNatFuel n n

/-- An integer as a natural number: `2n` for `n`, `2n + 1` for `-(n + 1)`. -/
def foldInt : Int → Nat
  | .ofNat n => 2 * n
  | .negSucc n => 2 * n + 1

/-- The integer a folded number stands for. -/
def unfoldInt (n : Nat) : Int := if n % 2 = 0 then .ofNat (n / 2) else .negSucc (n / 2)

/-- An integer, folded. -/
def parseInt : Parse Int := parseNat.andThen fun n => .ret (unfoldInt n)

/-- A number below `n`, in one byte. -/
def parseFin (n : Nat) : Parse (Fin n) :=
  parseByte.andThen fun b => if h : b.toNat < n then .ret ⟨b.toNat, h⟩ else .fail (.badOperand b)

/-- The byte of a small number. -/
def encodeFin {n : Nat} (i : Fin n) : List Byte := [BitVec.ofNat 8 i.val]

/-- `n` values one after another. -/
def parseMany {α : Type} (p : Parse α) : Nat → Parse (List α)
  | 0 => .ret []
  | n + 1 => p.andThen fun x => (parseMany p n).andThen fun l => .ret (x :: l)

/-- A sound buffer: its length, then its pairs (44_sound.md R305). -/
def parseBuffer : Parse (List (Int × Int)) :=
  parseNat.andThen (parseMany (parseInt.andThen fun l => parseInt.andThen fun r => .ret (l, r)))

/-- The bytes of a sound buffer. -/
def encodeBuffer (b : List (Int × Int)) : List Byte :=
  encodeNat b.length ++ b.flatMap fun p => encodeNat (foldInt p.1) ++ encodeNat (foldInt p.2)

/-! ### Names of peripherals, sockets, stores and handlers -/

/-- A peripheral other than the FDC. -/
def parseDev : Parse Dev :=
  parseByte.andThen fun b =>
    match b.toNat with
    | 0 => .ret .xsnd6
    | 1 => .ret .xsnd4
    | 2 => parseNat.andThen fun n => .ret (.other n)
    | _ => .fail (.badOperand b)

/-- The bytes of a peripheral other than the FDC. -/
def encodeDev : Dev → List Byte
  | .xsnd6 => [0#8]
  | .xsnd4 => [1#8]
  | .other n => 2#8 :: encodeNat n

/-- A peripheral. -/
def parsePeriph : Parse Periph :=
  parseByte.andThen fun b =>
    match b.toNat with
    | 0 => .ret .fdc
    | 1 => parseDev.andThen fun d => .ret (.dev d)
    | _ => .fail (.badOperand b)

/-- The bytes of a peripheral. -/
def encodePeriph : Periph → List Byte
  | .fdc => [0#8]
  | .dev d => 1#8 :: encodeDev d

/-- A socket: 0 to 3 the slots, 4 the cartridge. -/
def parseSocket : Parse Socket :=
  (parseFin 5).andThen fun i => .ret (if h : i.val < 4 then .slot ⟨i.val, h⟩ else .cart)

/-- The byte of a socket. -/
def encodeSocket : Socket → List Byte
  | .slot k => encodeFin k
  | .cart => [4#8]

/-- A debug store: 0 to 4 the block's own and the cartridge, 5 to 8 the card windows. -/
def parseStore : Parse DbgStore :=
  parseByte.andThen fun b =>
    match b.toNat with
    | 0 => .ret .sys
    | 1 => .ret .extRom
    | 2 => .ret .userRam
    | 3 => .ret .videoRam
    | 4 => .ret .cart
    | 5 => .ret (.card 0)
    | 6 => .ret (.card 1)
    | 7 => .ret (.card 2)
    | 8 => .ret (.card 3)
    | _ => .fail (.badOperand b)

/-- The byte of a debug store. -/
def encodeStore : DbgStore → List Byte
  | .sys => [0#8]
  | .extRom => [1#8]
  | .userRam => [2#8]
  | .videoRam => [3#8]
  | .cart => [4#8]
  | .card k => [BitVec.ofNat 8 (5 + k.val)]

/-- A sound generator. -/
def parseGen : Parse Gen :=
  parseByte.andThen fun b =>
    match b.toNat with
    | 0 => .ret .builtin
    | 1 => .ret .xsnd6
    | 2 => .ret .xsnd4
    | _ => .fail (.badOperand b)

/-- The byte of a sound generator. -/
def encodeGen : Gen → List Byte
  | .builtin => [0#8]
  | .xsnd6 => [1#8]
  | .xsnd4 => [2#8]

/-- A reader's identity. -/
def parseReader : Parse Reader :=
  parseByte.andThen fun b =>
    match b.toNat with
    | 0 => .ret .kbd
    | 1 => .ret .intStat
    | 2 => .ret .cardId
    | 3 => .ret .ackStat
    | 4 => .ret .crtcData
    | 5 => .ret .fdcStatus
    | 6 => .ret .fdcTrack
    | 7 => .ret .fdcSector
    | 8 => .ret .fdcData
    | 9 => parseDev.andThen fun d => .ret (.dev d)
    | 10 => parseNat.andThen fun n => .ret (.ext n)
    | 11 => .ret .fdcLines
    | _ => .fail (.badOperand b)

/-- The bytes of a reader's identity. -/
def encodeReader : Reader → List Byte
  | .kbd => [0#8]
  | .intStat => [1#8]
  | .cardId => [2#8]
  | .ackStat => [3#8]
  | .crtcData => [4#8]
  | .fdcStatus => [5#8]
  | .fdcTrack => [6#8]
  | .fdcSector => [7#8]
  | .fdcData => [8#8]
  | .fdcLines => [11#8]
  | .dev d => 9#8 :: encodeDev d
  | .ext n => 10#8 :: encodeNat n

/-- A writer's identity. -/
def parseWriter : Parse Writer :=
  parseByte.andThen fun b =>
    match b.toNat with
    | 0 => .ret .border
    | 1 => .ret .paging
    | 2 => .ret .extSel
    | 3 => .ret .page3
    | 4 => .ret .sndFreqL
    | 5 => .ret .sndFreqH
    | 6 => .ret .sndVol
    | 7 => .ret .intClr
    | 8 => (parseFin 4).andThen fun i => .ret (.pal i)
    | 9 => .ret .crtcAddr
    | 10 => .ret .crtcData
    | 11 => .ret .gfxMode
    | 12 => .ret .fdcCmd
    | 13 => .ret .fdcTrack
    | 14 => .ret .fdcSector
    | 15 => .ret .fdcData
    | 16 => .ret .fdcCtrl
    | 17 => parseDev.andThen fun d => .ret (.dev d)
    | 18 => parseNat.andThen fun n => .ret (.ext n)
    | _ => .fail (.badOperand b)

/-- The bytes of a writer's identity. -/
def encodeWriter : Writer → List Byte
  | .border => [0#8]
  | .paging => [1#8]
  | .extSel => [2#8]
  | .page3 => [3#8]
  | .sndFreqL => [4#8]
  | .sndFreqH => [5#8]
  | .sndVol => [6#8]
  | .intClr => [7#8]
  | .pal i => 8#8 :: encodeFin i
  | .crtcAddr => [9#8]
  | .crtcData => [10#8]
  | .gfxMode => [11#8]
  | .fdcCmd => [12#8]
  | .fdcTrack => [13#8]
  | .fdcSector => [14#8]
  | .fdcData => [15#8]
  | .fdcCtrl => [16#8]
  | .dev d => 17#8 :: encodeDev d
  | .ext n => 18#8 :: encodeNat n

/-- A reset handler's identity. -/
def parseResetter : Parse Resetter :=
  parseByte.andThen fun b =>
    match b.toNat with
    | 0 => .ret .mapper
    | 1 => .ret .fdc
    | 2 => parseDev.andThen fun d => .ret (.dev d)
    | 3 => parseNat.andThen fun n => .ret (.ext n)
    | _ => .fail (.badOperand b)

/-- The bytes of a reset handler's identity. -/
def encodeResetter : Resetter → List Byte
  | .mapper => [0#8]
  | .fdc => [1#8]
  | .dev d => 2#8 :: encodeDev d
  | .ext n => 3#8 :: encodeNat n

/-! ### The port map (30_encoding.md R130, R143, R161) -/

/-- The row of a port write by its slot: the fixed registers of R130, then the card windows 0x10 to 0x4F. The two
rows whose slot is a parameter (OUT_PAGE3, OUT_GFXMODE) are named by their own operation byte. -/
def portWriteRow (slot hi v : Byte) : Option Instr :=
  match slot.toNat with
  | 0x00 => some (.outBorder v)
  | 0x02 => some (.outPaging v)
  | 0x03 => some (.outExtsel v)
  | 0x04 => some (.outSndfreql v)
  | 0x05 => some (.outSndfreqh v)
  | 0x06 => some (.outSndvol v)
  | 0x07 => some (.outIntclr v)
  | 0x60 => some (.outPal0 v)
  | 0x61 => some (.outPal1 v)
  | 0x62 => some (.outPal2 v)
  | 0x63 => some (.outPal3 v)
  | 0x70 => some (.outCrtcaddr v)
  | 0x71 => some (.outCrtcdata v)
  | n =>
    if h : 0x10 ≤ n ∧ n < 0x50 then
      some (.outCardwin ⟨n / 16 - 1, by omega⟩ ⟨n % 16, by omega⟩ hi v)
    else none

/-- The row of a port read by its slot. -/
def portReadRow (slot hi : Byte) : Option Instr :=
  match slot.toNat with
  | 0x58 => some .inKbd
  | 0x59 => some .inIntstat
  | 0x5A => some .inCardid
  | 0x5B => some .inAckstat
  | 0x71 => some .inCrtcdata
  | n =>
    if h : 0x10 ≤ n ∧ n < 0x50 then
      some (.inCardwin ⟨n / 16 - 1, by omega⟩ ⟨n % 16, by omega⟩ hi)
    else none

/-- The slot of card window w's offset k: `(w + 1) * 0x10 + k` (R143, R161). -/
def cardSlot (w : Fin 4) (k : Fin 16) : Byte := BitVec.ofNat 8 ((w.val + 1) * 16 + k.val)

/-- The row of a write to an FDC window offset (R145). -/
def fdcWriteRow (offset v : Byte) : Option Instr :=
  match offset.toNat with
  | 0 => some (.fdcCmdW v)
  | 1 => some (.fdcTrackW v)
  | 2 => some (.fdcSectorW v)
  | 3 => some (.fdcDataW v)
  | _ => none

/-- The row of a read of an FDC window offset (R145). -/
def fdcReadRow (offset : Byte) : Option Instr :=
  match offset.toNat with
  | 0 => some .fdcStatusR
  | 1 => some .fdcTrackR
  | 2 => some .fdcSectorR
  | 3 => some .fdcDataR
  | _ => none

/-! ### The FDC command byte (30_encoding.md R146 to R148) -/

/-- One row of R146: the byte is this command when `byte &&& mask = pattern`. -/
structure CmdRow where
  mask : Byte
  pattern : Byte
  build : Byte → FdcCommand

/-- The rows of R146, with the mask and match of spec/opcode_table.json. -/
def cmdRows : List CmdRow :=
  [⟨0xF0#8, 0x00#8, fun b => .restore (b.getLsbD 3) (b.getLsbD 2) (b.extractLsb' 0 2)⟩,
   ⟨0xF0#8, 0x10#8, fun b => .seek (b.getLsbD 3) (b.getLsbD 2) (b.extractLsb' 0 2)⟩,
   ⟨0xE0#8, 0x20#8, fun b => .step (b.getLsbD 4) (b.getLsbD 3) (b.getLsbD 2) (b.extractLsb' 0 2)⟩,
   ⟨0xE0#8, 0x40#8, fun b => .stepin (b.getLsbD 4) (b.getLsbD 3) (b.getLsbD 2) (b.extractLsb' 0 2)⟩,
   ⟨0xE0#8, 0x60#8, fun b => .stepout (b.getLsbD 4) (b.getLsbD 3) (b.getLsbD 2) (b.extractLsb' 0 2)⟩,
   ⟨0xE0#8, 0x80#8, fun b => .readsec (b.getLsbD 4) (b.getLsbD 3) (b.getLsbD 2) (b.getLsbD 1) (b.getLsbD 0)⟩,
   ⟨0xE0#8, 0xA0#8, fun b => .writesec (b.getLsbD 4) (b.getLsbD 3) (b.getLsbD 2) (b.getLsbD 1) (b.getLsbD 0)⟩,
   ⟨0xF0#8, 0xC0#8, fun b => .readaddr (b.getLsbD 3) (b.getLsbD 2) (b.getLsbD 1) (b.getLsbD 0)⟩,
   ⟨0xF0#8, 0xD0#8, fun b => .forceint (b.extractLsb' 0 4)⟩,
   ⟨0xF0#8, 0xE0#8, fun b => .readtrk (b.getLsbD 3) (b.getLsbD 2) (b.getLsbD 1) (b.getLsbD 0)⟩,
   ⟨0xF0#8, 0xF0#8, fun b => .writetrk (b.getLsbD 3) (b.getLsbD 2) (b.getLsbD 1) (b.getLsbD 0)⟩]

/-- The row a command byte matches. Every byte matches exactly one (R146): `cmdRows_cover` and `cmdRows_disjoint` in
Laws/Decode.lean. -/
def cmdRowOf (b : Byte) : Option CmdRow := cmdRows.find? fun r => b &&& r.mask == r.pattern

/-- The command of a byte. The last alternative is never taken. -/
def fdcCommandOf (b : Byte) : FdcCommand :=
  match cmdRowOf b with
  | some r => r.build b
  | none => .forceint 0#4

/-- The byte of a command, from the bit patterns of R146. -/
def FdcCommand.byte : FdcCommand → Byte
  | .restore h v r => 0b0000#4 ++ BitVec.ofBool h ++ BitVec.ofBool v ++ r
  | .seek h v r => 0b0001#4 ++ BitVec.ofBool h ++ BitVec.ofBool v ++ r
  | .step u h v r => 0b001#3 ++ BitVec.ofBool u ++ BitVec.ofBool h ++ BitVec.ofBool v ++ r
  | .stepin u h v r => 0b010#3 ++ BitVec.ofBool u ++ BitVec.ofBool h ++ BitVec.ofBool v ++ r
  | .stepout u h v r => 0b011#3 ++ BitVec.ofBool u ++ BitVec.ofBool h ++ BitVec.ofBool v ++ r
  | .readsec m sv e c x0 =>
    0b100#3 ++ BitVec.ofBool m ++ BitVec.ofBool sv ++ BitVec.ofBool e ++ BitVec.ofBool c ++ BitVec.ofBool x0
  | .writesec m sv e c a0 =>
    0b101#3 ++ BitVec.ofBool m ++ BitVec.ofBool sv ++ BitVec.ofBool e ++ BitVec.ofBool c ++ BitVec.ofBool a0
  | .readaddr x3 e x1 x0 => 0b1100#4 ++ BitVec.ofBool x3 ++ BitVec.ofBool e ++ BitVec.ofBool x1 ++ BitVec.ofBool x0
  | .forceint i => 0b1101#4 ++ i
  | .readtrk x3 e x1 x0 => 0b1110#4 ++ BitVec.ofBool x3 ++ BitVec.ofBool e ++ BitVec.ofBool x1 ++ BitVec.ofBool x0
  | .writetrk x3 e x1 x0 => 0b1111#4 ++ BitVec.ofBool x3 ++ BitVec.ofBool e ++ BitVec.ofBool x1 ++ BitVec.ofBool x0

/-- The row of a command (rows FDC_RESTORE to FDC_WRITETRK). -/
def FdcCommand.toInstr : FdcCommand → Instr
  | .restore h v r => .fdcRestore h v r
  | .seek h v r => .fdcSeek h v r
  | .step u h v r => .fdcStep u h v r
  | .stepin u h v r => .fdcStepin u h v r
  | .stepout u h v r => .fdcStepout u h v r
  | .readsec m sv e c x0 => .fdcReadsec m sv e c x0
  | .writesec m sv e c a0 => .fdcWritesec m sv e c a0
  | .readaddr x3 e x1 x0 => .fdcReadaddr x3 e x1 x0
  | .forceint i => .fdcForceint i
  | .readtrk x3 e x1 x0 => .fdcReadtrk x3 e x1 x0
  | .writetrk x3 e x1 x0 => .fdcWritetrk x3 e x1 x0

/-! ### Operations -/

/-- An optional row, or the error that names its selector. -/
def Parse.ofRow (row : Option Instr) (e : DecodeError) : Parse Instr :=
  match row with
  | some i => .ret i
  | none => .fail e

/-- The operands of the operation a byte names (R120, R155; the bytes: log 1). -/
def parseOperation (op : Byte) : Parse Instr :=
  match op.toNat with
  | 0x00 => parseWord.andThen fun a => .ret (.memrd a)
  | 0x01 => parseWord.andThen fun a => parseByte.andThen fun v => .ret (.memwr a v)
  | 0x02 => parseStore.andThen fun d => parseNat.andThen fun pg => parseNat.andThen fun o => .ret (.dbgrd d pg o)
  | 0x03 =>
    parseStore.andThen fun d => parseNat.andThen fun pg => parseNat.andThen fun o => parseByte.andThen fun v =>
      .ret (.dbgwr d pg o v)
  | 0x04 => parseWord.andThen fun a => .ret (.portrd a)
  | 0x05 => parseWord.andThen fun a => parseByte.andThen fun v => .ret (.portwr a v)
  | 0x06 => .ret .busreset
  | 0x07 => parseByte.andThen fun p => parseReader.andThen fun h => .ret (.addreader p h)
  | 0x08 => parseByte.andThen fun p => parseWriter.andThen fun h => .ret (.addwriter p h)
  | 0x09 => parseByte.andThen fun p => parseResetter.andThen fun h => .ret (.addreset p h)
  | 0x0A => parseByte.andThen fun p => parseReader.andThen fun h => .ret (.removereader p h)
  | 0x0B => parseByte.andThen fun p => parseWriter.andThen fun h => .ret (.removewriter p h)
  | 0x0C => parseByte.andThen fun p => parseResetter.andThen fun h => .ret (.removereset p h)
  | 0x0D => .ret .renderline
  | 0x0E =>
    parseGen.andThen fun g => parseBuffer.andThen fun buf => parseNat.andThen fun b => parseNat.andThen fun e =>
      .ret (.render g buf b e)
  | 0x0F => parseTick.andThen fun t => .ret (.periodic t)
  | 0x10 => parseSocket.andThen fun k => parsePeriph.andThen fun p => .ret (.install k p)
  | 0x11 => parseSocket.andThen fun k => .ret (.remove k)
  | 0x12 => parseNat.andThen fun n => .ret (.mstoticks n)
  | 0x13 => parseNat.andThen fun n => .ret (.ustoticks n)
  | 0x14 => parseNat.andThen fun t => .ret (.tickstoms t)
  | 0x15 => .ret .getticks
  | 0x16 => parseTick.andThen fun t => .ret (.tickssince t)
  | 0x17 => .ret .reset
  | 0x20 =>
    parseByte.andThen fun n => parseByte.andThen fun hi => parseByte.andThen fun v =>
      .ofRow (portWriteRow n hi v) (.noPortRow n)
  | 0x21 => parseByte.andThen fun n => parseByte.andThen fun hi => .ofRow (portReadRow n hi) (.noPortRow n)
  | 0x22 => parseByte.andThen fun v => .ret (.outPage3 v)
  | 0x23 => parseByte.andThen fun v => .ret (.outGfxmode v)
  | 0x24 => parseByte.andThen fun k => parseByte.andThen fun v => .ofRow (fdcWriteRow k v) (.noFdcRegister k)
  | 0x25 => parseByte.andThen fun k => .ofRow (fdcReadRow k) (.noFdcRegister k)
  | 0x26 => parseByte.andThen fun v => .ret (.fdcCtrlW v)
  | 0x27 => parseByte.andThen fun v => .ret (fdcCommandOf v).toInstr
  | _ => .fail (.unknownOperation op)

/-- The operation some bytes are: total, and every rejection has a name. -/
def decode : List Byte → Except DecodeError Instr
  | [] => .error .empty
  | op :: l =>
    match parseOperation op l with
    | .ok (i, []) => .ok i
    | .ok (_, _ :: _) => .error .trailing
    | .error e => .error e

/-- The bytes of a port write by its slot, with high address byte `hi`. -/
def encodePortWrite (slot hi v : Byte) : List Byte := [0x20#8, slot, hi, v]

/-- The bytes of a port read by its slot. -/
def encodePortRead (slot hi : Byte) : List Byte := [0x21#8, slot, hi]

/-- The bytes of a command row. -/
def encodeCommand (k : FdcCommand) : List Byte := [0x27#8, k.byte]

/-- The bytes of an operation. A base-machine handler's row is written with its slot of R130 and high address byte 0,
which no handler reads (R121). -/
def encode : Instr → List Byte
  | .memrd a => 0x00#8 :: encodeWord a
  | .memwr a v => 0x01#8 :: (encodeWord a ++ [v])
  | .dbgrd d pg o => 0x02#8 :: (encodeStore d ++ encodeNat pg ++ encodeNat o)
  | .dbgwr d pg o v => 0x03#8 :: (encodeStore d ++ encodeNat pg ++ encodeNat o ++ [v])
  | .portrd a => 0x04#8 :: encodeWord a
  | .portwr a v => 0x05#8 :: (encodeWord a ++ [v])
  | .busreset => [0x06#8]
  | .addreader p h => 0x07#8 :: p :: encodeReader h
  | .addwriter p h => 0x08#8 :: p :: encodeWriter h
  | .addreset p h => 0x09#8 :: p :: encodeResetter h
  | .removereader p h => 0x0A#8 :: p :: encodeReader h
  | .removewriter p h => 0x0B#8 :: p :: encodeWriter h
  | .removereset p h => 0x0C#8 :: p :: encodeResetter h
  | .renderline => [0x0D#8]
  | .render g buf b e => 0x0E#8 :: (encodeGen g ++ encodeBuffer buf ++ encodeNat b ++ encodeNat e)
  | .periodic t => 0x0F#8 :: encodeTick t
  | .install k p => 0x10#8 :: (encodeSocket k ++ encodePeriph p)
  | .remove k => 0x11#8 :: encodeSocket k
  | .mstoticks n => 0x12#8 :: encodeNat n
  | .ustoticks n => 0x13#8 :: encodeNat n
  | .tickstoms t => 0x14#8 :: encodeNat t
  | .getticks => [0x15#8]
  | .tickssince t => 0x16#8 :: encodeTick t
  | .reset => [0x17#8]
  | .outBorder v => encodePortWrite 0x00#8 0#8 v
  | .outPaging v => encodePortWrite 0x02#8 0#8 v
  | .outExtsel v => encodePortWrite 0x03#8 0#8 v
  | .outPage3 v => [0x22#8, v]
  | .outSndfreql v => encodePortWrite 0x04#8 0#8 v
  | .outSndfreqh v => encodePortWrite 0x05#8 0#8 v
  | .outSndvol v => encodePortWrite 0x06#8 0#8 v
  | .outIntclr v => encodePortWrite 0x07#8 0#8 v
  | .inKbd => encodePortRead 0x58#8 0#8
  | .inIntstat => encodePortRead 0x59#8 0#8
  | .inCardid => encodePortRead 0x5A#8 0#8
  | .inAckstat => encodePortRead 0x5B#8 0#8
  | .outPal0 v => encodePortWrite 0x60#8 0#8 v
  | .outPal1 v => encodePortWrite 0x61#8 0#8 v
  | .outPal2 v => encodePortWrite 0x62#8 0#8 v
  | .outPal3 v => encodePortWrite 0x63#8 0#8 v
  | .outCrtcaddr v => encodePortWrite 0x70#8 0#8 v
  | .outCrtcdata v => encodePortWrite 0x71#8 0#8 v
  | .inCrtcdata => encodePortRead 0x71#8 0#8
  | .outGfxmode v => [0x23#8, v]
  | .inCardwin w k hi => encodePortRead (cardSlot w k) hi
  | .outCardwin w k hi v => encodePortWrite (cardSlot w k) hi v
  | .fdcCmdW v => [0x24#8, 0#8, v]
  | .fdcStatusR => [0x25#8, 0#8]
  | .fdcTrackW v => [0x24#8, 1#8, v]
  | .fdcTrackR => [0x25#8, 1#8]
  | .fdcSectorW v => [0x24#8, 2#8, v]
  | .fdcSectorR => [0x25#8, 2#8]
  | .fdcDataW v => [0x24#8, 3#8, v]
  | .fdcDataR => [0x25#8, 3#8]
  | .fdcCtrlW v => [0x26#8, v]
  | .fdcRestore h v r => encodeCommand (.restore h v r)
  | .fdcSeek h v r => encodeCommand (.seek h v r)
  | .fdcStep u h v r => encodeCommand (.step u h v r)
  | .fdcStepin u h v r => encodeCommand (.stepin u h v r)
  | .fdcStepout u h v r => encodeCommand (.stepout u h v r)
  | .fdcReadsec m sv e c x0 => encodeCommand (.readsec m sv e c x0)
  | .fdcWritesec m sv e c a0 => encodeCommand (.writesec m sv e c a0)
  | .fdcReadaddr x3 e x1 x0 => encodeCommand (.readaddr x3 e x1 x0)
  | .fdcForceint i => encodeCommand (.forceint i)
  | .fdcReadtrk x3 e x1 x0 => encodeCommand (.readtrk x3 e x1 x0)
  | .fdcWritetrk x3 e x1 x0 => encodeCommand (.writetrk x3 e x1 x0)

/-! ### The table's own words -/

/-- The bytes of the instruction whose table bits are `w`. A table word carries no format, and the same number is a
slot in one row and a command byte in another, so it is read in the order of R155: a 16-bit word is a memory address
(MEMRD); an 8-bit word is a slot with a write row, else a slot with a read row, else an FDC command byte (log 2).
Operands the table gives no bits are zero. -/
def tableWordBytes (nbits w : Nat) : List Byte :=
  let b := BitVec.ofNat 8 w
  if nbits = 16 then 0x00#8 :: encodeWord (BitVec.ofNat 16 w)
  else if nbits = 8 then
    match portWriteRow b 0#8 0#8, portReadRow b 0#8 with
    | some _, _ => encodePortWrite b 0#8 0#8
    | none, some _ => encodePortRead b 0#8
    | none, none => [0x27#8, b]
  else []

/-- The instruction the decoder reads from a table word. -/
def decodeTableWord (nbits w : Nat) : Option Instr :=
  match decode (tableWordBytes nbits w) with
  | .ok i => some i
  | .error _ => none

end Sys2Proof
end

