-- ==== Sys2Proof/Machine/Ports.lean ====
section
/-! DEFINITION. The port registry (10_state.md R41, 41_portbus.md R193 to R198): 256 slots of handler lists in
registration order, the registrations of construction (42_system_ports.md R210) and those of a peripheral's Install
and Remove (46_backplane.md R402, R404). -/

namespace Sys2Proof.Machine

/-- Who registered a handler: the base machine, the host, or the peripheral of a backplane slot. It is the "list of
handlers it registered" that each peripheral holds (10_state.md R68), kept beside the handler (log 16). -/
inductive Owner where
  | base
  | host
  | slot (k : Fin 4)
  deriving DecidableEq, Repr

/-- A handler in a list, with its owner. -/
structure Entry (α : Type) where
  owner : Owner
  handler : α
  deriving DecidableEq, Repr

/-- A port slot (R41). -/
structure PortSlot where
  readers : List (Entry Reader)
  writers : List (Entry Writer)
  resets : List (Entry Resetter)
  deriving DecidableEq, Repr

/-- A slot with no handler. -/
def PortSlot.empty : PortSlot := ⟨[], [], []⟩

/-- The 256 slots. -/
abbrev Slots := Vector PortSlot 256

/-- The index of a slot number. -/
def slotIndex (p : Byte) : Fin 256 := ⟨p.toNat, p.isLt⟩

/-- The slot of a port number. -/
def Slots.at (t : Slots) (p : Byte) : PortSlot := t.get (slotIndex p)

/-- One slot changed. -/
def Slots.put (t : Slots) (p : Byte) (q : PortSlot) : Slots := t.set (slotIndex p).val q (slotIndex p).isLt

/-- The last element that meets `p` replaced by what `f` gives for it; no such element, no change. -/
def onLast {α : Type} (p : α → Bool) (f : α → List α) : List α → List α
  | [] => []
  | e :: l => if l.any p then e :: onLast p f l else if p e then f e ++ l else e :: l

/-- `removeLast(l, h)`: the last entry whose handler is `h` is deleted; no such entry, no change (00_scope.md R10). -/
def removeLast {α : Type} [DecidableEq α] (h : α) (l : List (Entry α)) : List (Entry α) :=
  onLast (fun e => decide (e.handler = h)) (fun _ => []) l

/-- The last entry of handler `h` that is not `o`'s becomes `o`'s. -/
def passOwner {α : Type} [DecidableEq α] (h : α) (o : Owner) (l : List (Entry α)) : List (Entry α) :=
  onLast (fun e => decide (e.handler = h) && decide (e.owner ≠ o)) (fun e => [{ e with owner := o }]) l

/-- Who registered the last entry of handler `h`. -/
def lastOwner {α : Type} [DecidableEq α] (h : α) (l : List (Entry α)) : Option Owner :=
  (l.reverse.find? fun e => decide (e.handler = h)).map Entry.owner

/-- A deregistration (41_portbus.md R196). Had the peripheral that registered the deleted entry never been installed, the
entry before it with the same handler would be the deleted one: that entry counts as the peripheral's from then on, so
that the entries of the others are the list R404 compares with (log 16). -/
def removeHandler {α : Type} [DecidableEq α] (h : α) (l : List (Entry α)) : List (Entry α) :=
  match lastOwner h l with
  | some (.slot k) => passOwner h (.slot k) (removeLast h l)
  | _ => removeLast h l

/-- One registration or deregistration (R193 to R198) in the name of `o`. -/
def Slots.apply (o : Owner) (t : Slots) : RegOp → Slots
  | .addReader p h => t.put p { t.at p with readers := (t.at p).readers ++ [⟨o, h⟩] }
  | .addWriter p h => t.put p { t.at p with writers := (t.at p).writers ++ [⟨o, h⟩] }
  | .addReset p h => t.put p { t.at p with resets := (t.at p).resets ++ [⟨o, h⟩] }
  | .removeReader p h => t.put p { t.at p with readers := removeHandler h (t.at p).readers }
  | .removeWriter p h => t.put p { t.at p with writers := removeHandler h (t.at p).writers }
  | .removeReset p h => t.put p { t.at p with resets := removeHandler h (t.at p).resets }

/-- Several, in order. -/
def Slots.applyAll (o : Owner) (t : Slots) (l : List RegOp) : Slots := l.foldl (Slots.apply o) t

/-- The handlers the base machine registers at construction, in the order of R210 (1) to (6). -/
def baseRegs (c : Cfg) : List RegOp :=
  [.addWriter 0x02#8 .paging, .addWriter 0x03#8 .extSel] ++
  (match c.pagePort3 with
   | some p => [.addWriter p .page3]
   | none => []) ++
  [.addReset 0x02#8 .mapper,
   .addWriter 0x07#8 .intClr, .addReader 0x59#8 .intStat,
   .addReader 0x58#8 .kbd,
   .addWriter 0x00#8 .border,
   .addWriter 0x60#8 (.pal 0), .addWriter 0x61#8 (.pal 1), .addWriter 0x62#8 (.pal 2), .addWriter 0x63#8 (.pal 3),
   .addWriter 0x70#8 .crtcAddr, .addReader 0x71#8 .crtcData, .addWriter 0x71#8 .crtcData,
   .addWriter c.gfxPort .gfxMode,
   .addWriter 0x04#8 .sndFreqL, .addWriter 0x05#8 .sndFreqH, .addWriter 0x06#8 .sndVol,
   .addReader 0x5A#8 .cardId, .addReader 0x5B#8 .ackStat]

/-- What a peripheral registers on Install into slot `k` (R330 for the FDC, R402): port handlers in its 16-port
window only, and its Reset on the window's first port. The FDC adds a reader where it shows INTRQ and DRQ, if it does
(45_fdc.md R390, log 41); where two of its writers share a port, the drive-select writer comes last (DESIGN CHOICE,
log 46). A device has one reader, one writer and one reset identity, shared
by all its ports (DESIGN CHOICE, log 14); which ports, the device and the slot decide (DESIGN CHOICE, log 44). -/
def installRegs (c : Cfg) (k : Fin 4) : Periph → List RegOp
  | .fdc =>
    [.addWriter (cardSlot k 0) .fdcCmd, .addReader (cardSlot k 0) .fdcStatus,
     .addWriter (cardSlot k 1) .fdcTrack, .addReader (cardSlot k 1) .fdcTrack,
     .addWriter (cardSlot k 2) .fdcSector, .addReader (cardSlot k 2) .fdcSector,
     .addWriter (cardSlot k 3) .fdcData, .addReader (cardSlot k 3) .fdcData,
     .addWriter (cardSlot k c.fdc.ctrlOffset) .fdcCtrl,
     .addReset (cardSlot k 0) .fdc] ++
    c.fdc.linesPort.toList.map fun o => .addReader (cardSlot k o) .fdcLines
  | .dev d =>
    (c.dev.readPorts d k).map (fun o => .addReader (cardSlot k o) (.dev d)) ++
    (c.dev.writePorts d k).map (fun o => .addWriter (cardSlot k o) (.dev d)) ++
    [.addReset (cardSlot k 0) (.dev d)]

/-- The deregistration that undoes a registration. -/
def undoReg : RegOp → RegOp
  | .addReader p h => .removeReader p h
  | .addWriter p h => .removeWriter p h
  | .addReset p h => .removeReset p h
  | .removeReader p h => .addReader p h
  | .removeWriter p h => .addWriter p h
  | .removeReset p h => .addReset p h

/-- What a peripheral's Remove asks of the bus, with the state numbers `core` at tick `now`. The FDC undoes exactly what it
registered (R330), and so does a sound chip (DESIGN CHOICE, log 44), in the cartridge socket nothing. A numbered
peripheral asks what its own model says, of its own handlers or of others' (R202), which R404 then holds against its
Install. -/
def removeRegs (c : Cfg) (core : Dev → Nat) (now : Tick) (k : Socket) (p : Periph) : List RegOp :=
  match p with
  | .dev (.other n) => c.dev.removal n k (core (.other n)) now
  | p =>
    match k with
    | .slot k => (installRegs c k p).map undoReg
    | .cart => []

/-- A slot without the entries of one owner: the list it would be had that owner never been installed (R404). -/
def PortSlot.without (o : Owner) (q : PortSlot) : PortSlot :=
  { readers := q.readers.filter fun e => decide (e.owner ≠ o)
    writers := q.writers.filter fun e => decide (e.owner ≠ o)
    resets := q.resets.filter fun e => decide (e.owner ≠ o) }

/-- All slots without the entries of one owner. -/
def Slots.without (o : Owner) (t : Slots) : Slots := t.map (PortSlot.without o)

/-- Two slots hold the same handlers in the same order, whoever registered them. -/
def PortSlot.sameHandlers (q r : PortSlot) : Bool :=
  decide (q.readers.map Entry.handler = r.readers.map Entry.handler) &&
  decide (q.writers.map Entry.handler = r.writers.map Entry.handler) &&
  decide (q.resets.map Entry.handler = r.resets.map Entry.handler)

/-- The same for all slots. -/
def Slots.sameHandlers (t u : Slots) : Bool :=
  (t.toList.zip u.toList).all fun p => p.1.sameHandlers p.2

/-- The slots at construction, before any peripheral is installed (R210 (1) to (6)). -/
def Slots.base (c : Cfg) : Slots := Slots.applyAll .base (Vector.replicate 256 PortSlot.empty) (baseRegs c)

/-- A peripheral's registrations, if a slot holds one (R402). -/
def Slots.install (c : Cfg) (t : Slots) (k : Fin 4) (p : Option Periph) : Slots :=
  match p with
  | some p => t.applyAll (.slot k) (installRegs c k p)
  | none => t

/-- The slots at construction (R210, R495): base machine, then `P_CARDS` in slot order. -/
def Slots.construction (c : Cfg) : Slots :=
  (((((Slots.base c).install c 0 (c.cards 0)).install c 1 (c.cards 1)).install c 2 (c.cards 2)).install c 3 (c.cards 3))

end Sys2Proof.Machine
end

