-- ==== Sys2Proof/Machine/State.lean ====
section
/-! DEFINITION. The state of the block (10_state.md R79) as plain data, the named updates over it, its value at
power-on (`State.reset`, 70_reset_and_hazards.md R492), and the reasons a step can stop. -/

namespace Sys2Proof.Machine

/-- Why the machine stops. -/
inductive Fault where
  /-- Raised by `step` when the host has handed over no further operation: the run has ended
  (70_reset_and_hazards.md R516). Safe: no instruction is stopped by it. -/
  | endOfTrace
  deriving DecidableEq, Repr

/-- Why the model gives no meaning. -/
inductive Refusal where
  /-- An arm of `exec` not modelled yet. Safe. -/
  | notModelled (mnemonic : String)
  /-- Raised by `step` on bytes that are no operation (log 1). Safe. -/
  | undecodable (e : DecodeError)
  deriving DecidableEq, Repr

/-- What the last operation returned to its caller (10_state.md R75, log 27). -/
inductive Answer where
  | none
  | byte (v : Byte)
  | number (n : Nat)
  | tick (t : Tick)
  | samples (buf : List (Int × Int))
  deriving DecidableEq, Repr

/-- One operation the host hands over: the tick counter and the keyboard matrix at the moment of the call (R69, R70)
and the operation's bytes (log 3). It carries no disk image (DESIGN CHOICE, log 43). -/
structure Call where
  now : Tick
  kbd : Vector Byte 16
  bytes : List Byte
  deriving DecidableEq, Repr

/-- The paging latches and what follows from them (R37 to R40, R72). -/
structure Paging where
  port02 : Byte
  port03 : Byte
  pagePort3 : Byte
  bind : Vector Tag 4
  tapeMotor : Bool
  deriving DecidableEq, Repr

/-- A painted line: each pixel's value and dim value (43_video.md R265, R266). -/
abbrev Row := List (Pixel × Pixel)

/-- A frame: its rows from line 0 on. -/
abbrev Frame := List Row

/-- The video controller (R43 to R50). -/
structure Video where
  border : Byte
  palette : Vector Byte 4
  gfxLatch : Byte
  crtcIdx : BitVec 5
  crtc : Vector Byte 18
  ma : BitVec 14
  ra : BitVec 2
  rowStart : BitVec 14
  line : Nat
  frameCount : BitVec 64
  frameBuf : Frame
  deriving DecidableEq, Repr

/-- A tone channel (R52). -/
structure ToneChannel where
  counter : BitVec 12
  post : Nat
  deriving DecidableEq, Repr

/-- The built-in sound generator (R51 to R55). `dacLevel` is computed (R53). -/
structure Sound where
  snd04 : Byte
  snd05 : Byte
  snd06 : Byte
  ch : Vector ToneChannel 2
  sndTick : Tick
  sndEvents : List (Tick × Int)
  sndBase : Int
  lastEnd : Nat
  deriving DecidableEq, Repr

/-- A channel of a sound chip: its octave and divisor register pair, and the phase of its frequency divider
(44_sound.md R310, R311). -/
structure ToneReg where
  octave : Nat
  divisor : Nat
  phase : Nat
  deriving DecidableEq, Repr

/-- An expansion sound chip (R57): its channels, a number for the rest of its open layout, and the accumulator of
44_sound.md R312. -/
structure Chip where
  core : Nat
  tone : List ToneReg
  tick : Tick
  events : List (Tick × (Int × Int))
  base : Int × Int
  lastEnd : Nat
  deriving DecidableEq, Repr

/-- The FDC operation state (R60). -/
inductive FdcOp where
  | none
  | seek
  | idReadWaitForIndex
  | idRead
  | sectorRead
  | trackWriteWaitForIndex
  | trackWriteGap
  | trackWriteIdAddr
  | trackWriteData
  deriving DecidableEq, Repr

/-- The FDC status mode (R61). -/
inductive FdcMode where
  | typeI
  | typeII
  | typeIII
  deriving DecidableEq, Repr

/-- The direction of the last step (R63). -/
inductive StepDir where
  | inward
  | outward
  deriving DecidableEq, Repr

/-- A disk drive (R66). It holds its image by value: no two drives refer to one image (DESIGN CHOICE, log 43). -/
structure Drive where
  phys : Nat
  sector : Nat
  geom : Geom
  image : Option Image
  logicalTracks : Nat
  deriving DecidableEq, Repr

/-- The FDC and its drives (R58 to R66). `fopDrive` is the drive the operation in progress started on
(45_fdc.md R334, log 22). -/
structure Fdc where
  fcmd : Byte
  ftr : Byte
  fsr : Byte
  fdr : Byte
  drq : Bool
  intrq : Bool
  rnf : Bool
  lostData : Bool
  headLoad : Bool
  wpErr : Bool
  fop : FdcOp
  fmode : FdcMode
  fcur : Option (Fin 4)
  fside : Fin 2
  fopDrive : Option (Fin 4)
  fstart : Tick
  fdelay : Tick
  ftarget : Byte
  fidx : Nat
  flast : Tick
  fbuf : List Byte
  fstepDir : StepDir
  fpending : Int × Byte
  fwId : List Byte
  fwSector : List Byte
  drive : Vector (Option Drive) 4
  deriving DecidableEq, Repr

/-- An audio range handed to the host (R71, 44_sound.md R307). -/
structure AudioRange where
  gen : Gen
  first : Nat
  last : Nat
  samples : List (Int × Int)
  deriving DecidableEq, Repr

/-- The state record `S` (R79), with the host's pending calls and inputs and the model's bookkeeping. -/
structure State where
  mem : Memory
  sysRom : List Byte
  extRom : List Byte
  paging : Paging
  slots : Slots
  intFF : Bool
  video : Video
  sound : Sound
  xsnd6 : Chip
  xsnd4 : Chip
  fdc : Fdc
  card : Vector (Option Periph) 4
  cart : Option Periph
  others : NatMap
  exts : NatMap
  now : Tick
  lastPeriodic : Tick
  kbd : Vector Byte 16
  calls : List Call
  frameOut : List Frame
  audioOut : List AudioRange
  refused : Bool
  result : Answer
  draws : Nat
  deriving DecidableEq, Repr

/-! ### Named updates -/

def State.setMem (s : State) (x : Memory) : State := { s with mem := x }
def State.setPaging (s : State) (x : Paging) : State := { s with paging := x }
def State.setSlots (s : State) (x : Slots) : State := { s with slots := x }
def State.setIntFF (s : State) (x : Bool) : State := { s with intFF := x }
def State.setVideo (s : State) (x : Video) : State := { s with video := x }
def State.setSound (s : State) (x : Sound) : State := { s with sound := x }
def State.setXsnd6 (s : State) (x : Chip) : State := { s with xsnd6 := x }
def State.setXsnd4 (s : State) (x : Chip) : State := { s with xsnd4 := x }
def State.setFdc (s : State) (x : Fdc) : State := { s with fdc := x }
def State.setCard (s : State) (x : Vector (Option Periph) 4) : State := { s with card := x }
def State.setCart (s : State) (x : Option Periph) : State := { s with cart := x }
def State.setOthers (s : State) (x : NatMap) : State := { s with others := x }
def State.setExts (s : State) (x : NatMap) : State := { s with exts := x }
def State.setNow (s : State) (x : Tick) : State := { s with now := x }
def State.setLastPeriodic (s : State) (x : Tick) : State := { s with lastPeriodic := x }
def State.setKbd (s : State) (x : Vector Byte 16) : State := { s with kbd := x }
def State.setCalls (s : State) (x : List Call) : State := { s with calls := x }
def State.setFrameOut (s : State) (x : List Frame) : State := { s with frameOut := x }
def State.setAudioOut (s : State) (x : List AudioRange) : State := { s with audioOut := x }
def State.setRefused (s : State) (x : Bool) : State := { s with refused := x }
def State.setResult (s : State) (x : Answer) : State := { s with result := x }
def State.setDraws (s : State) (x : Nat) : State := { s with draws := x }

/-! ### Power-on -/

/-- A drive at power-on: head and sector counter are draws within the geometry, here track 0 and sector 1 (R66,
log 9). The image is taken from the configuration once, and only a track write changes it (DESIGN CHOICE, log 43). -/
def Drive.powerOn (d : DriveCfg) : Drive :=
  { phys := 0, sector := 1, geom := d.geom, image := d.image, logicalTracks := d.logicalTracks }

/-- The FDC at power-on (R58 to R64; draws: log 9). -/
def Fdc.powerOn (c : Cfg) (now : Tick) : Fdc :=
  { fcmd := 0#8, ftr := 0#8, fsr := 0#8, fdr := 0#8
    drq := false, intrq := false, rnf := false, lostData := false, headLoad := false, wpErr := false
    fop := .none, fmode := .typeI, fcur := none, fside := 0, fopDrive := none
    fstart := 0#64, fdelay := 0#64, ftarget := 0#8, fidx := 0, flast := now, fbuf := []
    fstepDir := .inward, fpending := (0, 0#8), fwId := [], fwSector := []
    drive := Vector.ofFn fun k => (c.fdc.drives k).map Drive.powerOn }

/-- The video controller at power-on (R43 to R50; draws: log 9). -/
def Video.powerOn : Video :=
  { border := 0#8, palette := Vector.replicate 4 0#8, gfxLatch := 0#8, crtcIdx := 0#5
    crtc := Vector.replicate 18 0#8, ma := 0#14, ra := 0#2, rowStart := 0#14, line := 0
    frameCount := 0#64, frameBuf := [] }

/-- The built-in sound generator at power-on (R51 to R55; draws: log 9). -/
def Sound.powerOn (now : Tick) : Sound :=
  { snd04 := 0#8, snd05 := 0#8, snd06 := 0#8, ch := Vector.replicate 2 ⟨0#12, 0⟩
    sndTick := now, sndEvents := [], sndBase := 0, lastEnd := 0 }

/-- The channels of a sound chip: six and four (44_sound.md R310). -/
def toneChannels : Dev → Nat
  | .xsnd6 => 6
  | .xsnd4 => 4
  | .other _ => 0

/-- A channel at power-on: the chip model's own values. -/
def ToneReg.powerOn (c : Cfg) (d : Dev) (i : Nat) : ToneReg :=
  let x := c.dev.tonePowerOn d i
  ⟨x.1, x.2.1, x.2.2⟩

/-- A sound chip at power-on (R57, log 17). -/
def Chip.powerOn (c : Cfg) (d : Dev) (now : Tick) : Chip :=
  { core := c.dev.powerOn d, tone := (List.range (toneChannels d)).map (ToneReg.powerOn c d)
    tick := now, events := [], base := (0, 0), lastEnd := 0 }

/-- The paging latches at power-on (R37 to R40, R72; draws: log 9). -/
def Paging.powerOn (c : Cfg) : Paging :=
  { port02 := 0#8, port03 := 0#8, pagePort3 := 0#8, bind := decodePages c 0#8 0#8 0#8
    tapeMotor := (0#8 : Byte).getLsbD c.mem.tapeMotorBit.val }

/-- The state number of a peripheral installed at construction, for the numbered ones (log 14). -/
def othersPut (c : Cfg) (m : NatMap) : Option Periph → NatMap
  | some (.dev (.other n)) => m.put n (c.dev.powerOn (.other n))
  | _ => m

/-- The state numbers at construction (R495 (4)). -/
def othersPowerOn (c : Cfg) : NatMap :=
  othersPut c (othersPut c (othersPut c (othersPut c (othersPut c [] (c.cards 0)) (c.cards 1)) (c.cards 2)) (c.cards 3))
    (c.cart.map fun n => .dev (.other n))

/-- The state after construction with a configuration (70_reset_and_hazards.md R492, R495). Nothing has been handed to
the host yet (log 9). -/
def State.powerOn (c : Cfg) : State :=
  { mem := [], sysRom := c.sysRom, extRom := c.extRom
    paging := Paging.powerOn c
    slots := Slots.construction c
    intFF := false
    video := Video.powerOn
    sound := Sound.powerOn 0#64
    xsnd6 := Chip.powerOn c .xsnd6 0#64
    xsnd4 := Chip.powerOn c .xsnd4 0#64
    fdc := Fdc.powerOn c 0#64
    card := Vector.ofFn c.cards
    cart := c.cart.map fun n => .dev (.other n)
    others := othersPowerOn c
    exts := []
    now := 0#64, lastPeriodic := 0#64
    kbd := Vector.replicate 16 0#8
    calls := [], frameOut := [], audioOut := []
    refused := false, result := .none, draws := 0 }

/-- The machine right after power-on, with its own configuration: construction, which does not run RESET (R495). -/
def State.reset : State := State.powerOn Config.cfg

end Sys2Proof.Machine
end

