-- ==== Sys2Proof/Machine/Operands.lean ====
section
/-! DEFINITION. Operand forms: port addresses, the assembled multi-byte register values, raster values, disk blocks, and
tick arithmetic (30_encoding.md, 43_video.md R256, 44_sound.md R304, 47_timing.md). -/

namespace Sys2Proof.Machine

/-! ### Ports -/

/-- The slot of a port address: `addr[7:0]` (30_encoding.md R121). -/
def portSlot (a : Word) : Byte := a.extractLsb' 0 8

/-- The port address of a high byte and a slot (R121). -/
def portAddr (hi slot : Byte) : Word := hi ++ slot

/-! ### Video registers -/

/-- CRTC register i. -/
def Video.reg (v : Video) (i : Fin 18) : Byte := v.crtc.get i

/-- The 14-bit start address, high register first (R141). -/
def Video.startAddr (v : Video) : BitVec 14 := (v.reg 12).extractLsb' 0 6 ++ v.reg 13

/-- The 14-bit cursor address, high register first (R141). -/
def Video.cursorAddr (v : Video) : BitVec 14 := (v.reg 14).extractLsb' 0 6 ++ v.reg 15

/-- Characters per line HT (R256). -/
def Video.totalChars (v : Video) : Nat := (v.reg 0).toNat + 1

/-- Displayed characters HD (R256). -/
def Video.displayedChars (v : Video) : Nat := (v.reg 1).toNat

/-- Character rows per frame VT (R256). -/
def Video.totalRows (v : Video) : Nat := ((v.reg 4).extractLsb' 0 7).toNat + 1

/-- Adjust lines VA (R256). -/
def Video.adjustLines (v : Video) : Nat := ((v.reg 5).extractLsb' 0 5).toNat

/-- Displayed rows VD (R256). -/
def Video.displayedRows (v : Video) : Nat := ((v.reg 6).extractLsb' 0 7).toNat

/-- Total vertical lines VL (R256): rows of four scanlines, plus the adjust lines. -/
def Video.totalLines (v : Video) : Nat := v.totalRows * 4 + v.adjustLines

/-- `valid(crtc)` (R257). -/
def crtcValid (c : Cfg) (v : Video) : Bool := c.video.crtcValid v.totalChars v.totalRows v.totalLines

/-- The graphics mode in use (R142). -/
def gfxMode (c : Cfg) (v : Video) : GfxMode := c.video.gfxMode v.gfxLatch

/-- The CRTC register an index selects, if any: 0 to 17 (R253). -/
def crtcSelect (i : BitVec 5) : Option (Fin 18) := if h : i.toNat < 18 then some ⟨i.toNat, h⟩ else none

/-! ### Sound registers -/

/-- Channel 0's divisor `{snd05[3:0], snd04}` (R139). -/
def Sound.div0 (x : Sound) : BitVec 12 := x.snd05.extractLsb' 0 4 ++ x.snd04

/-- The divisor of a channel (44_sound.md R291). -/
def soundDiv (c : Cfg) (x : Sound) (i : Fin 2) : BitVec 12 :=
  if i = 0 then x.div0 else c.snd.div1 x.snd04 x.snd05 x.snd06

/-- The tick of sample n (R304). -/
def sampleTick (c : Cfg) (n : Nat) : Nat := n * c.clockHz / c.sampleRate

/-! ### Time -/

/-- `msToTicks` (47_timing.md R430). -/
def msToTicks (c : Cfg) (ms : Nat) : Nat := ms * c.clockHz / 1000

/-- `usToTicks` (R431). -/
def usToTicks (c : Cfg) (us : Nat) : Nat := us * c.clockHz / 1000000

/-- `ticksToMs` (R433). -/
def ticksToMs (c : Cfg) (t : Nat) : Nat := t * 1000 / c.clockHz

/-- `TicksSince`: the difference mod 2^64 (R434). -/
def ticksSince (now start : Tick) : Tick := now - start

/-- The index-pulse level `idx(t)` (R436). -/
def indexLevel (c : Cfg) (t : Tick) : Bool := decide (t.toNat % c.indexPeriod < c.indexWidth)

/-- The first index edge after tick `t` (R437). -/
def nextEdge (c : Cfg) (t : Nat) : Nat := (t / c.indexPeriod + 1) * c.indexPeriod

/-! ### Disk -/

/-- The logical track of a drive (10_state.md R67). -/
def Drive.logical (d : Drive) : Nat := if d.geom.tracks = 2 * d.logicalTracks then d.phys / 2 else d.phys

/-- The linear block of a track, head and 1-based sector (R160). -/
def blockNumber (g : Geom) (track head sector : Nat) : Nat :=
  track * g.sides * g.sectorsPerTrack + head * g.sectorsPerTrack + (sector - 1)

/-- A block read: `sectorLen` bytes at `block * sectorLen`, or that many 0xFF when the image does not hold them
(R160, R355, log 24). -/
def readBlock (g : Geom) (i : Image) (block : Nat) : List Byte :=
  let b := (i.bytes.drop (block * g.sectorLen)).take g.sectorLen
  if b.length = g.sectorLen then b else List.replicate g.sectorLen 0xFF#8

/-- A block write at `block * sectorLen`. A range the image does not hold is not written (log 24). -/
def writeBlock (g : Geom) (i : Image) (block : Nat) (bytes : List Byte) : Image :=
  let o := block * g.sectorLen
  if o + bytes.length ≤ i.bytes.length then
    { i with bytes := i.bytes.take o ++ bytes ++ i.bytes.drop (o + bytes.length) }
  else i

/-- The length code n with `len = 128 << n`, n in 0..3 (R151). -/
def lenCode (len : Nat) : Option Byte :=
  if len = 128 then some 0#8
  else if len = 256 then some 1#8
  else if len = 512 then some 2#8
  else if len = 1024 then some 3#8
  else none

/-! ### Card identification -/

/-- `GetID` of a peripheral, given the state number of a device (46_backplane.md R400). The FDC's is a constant of the
configuration (DESIGN CHOICE, log 40). -/
def periphId (c : Cfg) (core : Dev → Nat) : Periph → Byte
  | .fdc => c.fdc.getId
  | .dev d => c.dev.getId d (core d)

end Sys2Proof.Machine
end

