-- ==== Sys2Proof/Machine/Flags.lean ====
section
/-! DEFINITION. The status flags (10_state.md R73): the FDC's computed flags and its status register (30_encoding.md R150),
and the shared interrupt flip-flop (60_exceptions.md R455). -/

namespace Sys2Proof.Machine

/-- Drive k, if there is one. -/
def Fdc.driveAt (f : Fdc) (k : Option (Fin 4)) : Option Drive := k.bind fun i => f.drive.get i

/-- The current drive `d`, if there is one (R62). -/
def Fdc.current (f : Fdc) : Option Drive := f.driveAt f.fcur

/-- The drive the operation in progress runs on (45_fdc.md R334, log 22). -/
def Fdc.operating (f : Fdc) : Option Drive := f.driveAt f.fopDrive

/-- BUSY: `fop ≠ None` (R60). -/
def Fdc.busy (f : Fdc) : Bool := decide (f.fop ≠ .none)

/-- NOT READY: no current drive, or no image in it (R73). -/
def Fdc.notReady (f : Fdc) : Bool :=
  match f.current with
  | some d => d.image.isNone
  | none => true

/-- TRACK0: the current drive's head is at physical track 0; false without a drive (R73, log 23). -/
def Fdc.track0 (f : Fdc) : Bool :=
  match f.current with
  | some d => decide (d.phys = 0)
  | none => false

/-- Write protection of the current drive's image, false by default (R150, R392). -/
def Fdc.writeProtect (f : Fdc) : Bool :=
  match f.current.bind Drive.image with
  | some i => i.wp
  | none => false

/-- The status register in the mode last selected (R150). -/
def fdcStatus (c : Cfg) (now : Tick) (f : Fdc) : Byte :=
  match f.fmode with
  | .typeI =>
    BitVec.ofBool f.notReady ++ BitVec.ofBool f.writeProtect ++ BitVec.ofBool f.headLoad ++ 0#2 ++
      BitVec.ofBool f.track0 ++ BitVec.ofBool (indexLevel c now) ++ BitVec.ofBool f.busy
  | .typeII | .typeIII =>
    BitVec.ofBool f.notReady ++ 0#2 ++ BitVec.ofBool f.rnf ++ 0#1 ++ BitVec.ofBool f.lostData ++
      BitVec.ofBool f.drq ++ BitVec.ofBool f.busy

/-- The interrupt line to the CPU: the level of the flip-flop (60_exceptions.md R455). -/
def State.irq (s : State) : Bool := s.intFF

/-- The byte of port 0x59: `intFF` in its bit and polarity, the other bits as given (R135). -/
def intStatusByte (c : Cfg) (ff : Bool) (other : Byte) : Byte :=
  let bit := if c.mem.intStatusLow then !ff else ff
  let mask : Byte := 1#8 <<< c.mem.intStatusBit.val
  if bit then other ||| mask else other &&& ~~~mask

end Sys2Proof.Machine
end

