-- ==== Sys2Proof/Machine/Ops.lean ====
section
/-! DEFINITION. The named operations every meaning is built from: refusals and answers, draws, the state of a device, the
page of an address (20_memory.md R84), rebinding (R88), and registrations by handlers. The block raises no exception
(60_exceptions.md R450), so there is no trap entry and no return; what takes their place is the interrupt flip-flop,
set by `State.raiseInt` and cleared by `State.clearInt`. -/

namespace Sys2Proof.Machine

/-! ### Outcomes -/

/-- `refuse(reason)`: the sticky mark is set and nothing else changes (00_scope.md R9, 10_state.md R78, log 4). -/
def State.refuse (s : State) : State := s.setRefused true

/-- The operation ends and returns a value (log 27). -/
def answer (a : Answer) (s : State) : Host.Outcome State Fault Refusal := .next (s.setResult a)

/-- The operation ends and returns nothing. -/
def done (s : State) : Host.Outcome State Fault Refusal := answer .none s

/-- The operation ends and returns a byte. -/
def answerByte (r : Byte × State) : Host.Outcome State Fault Refusal := answer (.byte r.1) r.2

/-! ### The interrupt flip-flop (60_exceptions.md R455 to R461) -/

/-- A source sets the flip-flop; a second set is lost (R461). -/
def State.raiseInt (s : State) : State := s.setIntFF true

/-- The write to port 0x07 clears it (R458). -/
def State.clearInt (s : State) : State := s.setIntFF false

/-! ### Draws -/

/-- `draw()` of a byte (R9, log 11). -/
def drawByte (c : Cfg) (s : State) : Byte × State := (c.freeByte s.draws, s.setDraws (s.draws + 1))

/-! ### Peripherals -/

/-- The state number of a device; one never installed is at its power-on value (log 14). -/
def State.core (c : Cfg) (s : State) : Dev → Nat
  | .xsnd6 => s.xsnd6.core
  | .xsnd4 => s.xsnd4.core
  | .other n => (s.others.find n).getD (c.dev.powerOn (.other n))

/-- A device's state number changed. -/
def State.setCore (s : State) (d : Dev) (x : Nat) : State :=
  match d with
  | .xsnd6 => s.setXsnd6 { s.xsnd6 with core := x }
  | .xsnd4 => s.setXsnd4 { s.xsnd4 with core := x }
  | .other n => s.setOthers (s.others.put n x)

/-! ### Pages (20_memory.md R84, R88) -/

/-- The tag bound to the page of an address. -/
def State.tagOf (s : State) (a : Word) : Tag := s.paging.bind.get (pageOf a)

/-- The paging latches take new values and the four pages are rebound at once (R88); the tape motor follows its bit of
port03 (10_state.md R72). -/
def rebind (c : Cfg) (port02 port03 page3 : Byte) : Paging :=
  { port02 := port02, port03 := port03, pagePort3 := page3
    bind := decodePages c port02 port03 page3
    tapeMotor := port03.getLsbD c.mem.tapeMotorBit.val }

/-! ### External handlers (41_portbus.md R199, R200, log 15) -/

/-- The state number of an external handler. -/
def State.extState (s : State) (n : Nat) : Nat := (s.exts.find n).getD 0

/-- What an external handler did: its new state number and its registrations, which change what later operations
call (R200). -/
def State.extDone (s : State) (n : Nat) (x : Nat) (regs : List RegOp) : State :=
  (s.setExts (s.exts.put n x)).setSlots (s.slots.applyAll .host regs)

end Sys2Proof.Machine
end

