-- ==== Sys2Proof/Machine/Sound.lean ====
section
/-! DEFINITION. The built-in sound generator and the expansion chips' accumulators (44_sound.md): catch-up, the register
writes of ports 0x04 to 0x06, and RENDER. -/

namespace Sys2Proof.Machine

/-! ### The channel machine (R291 to R294) -/

/-- `P_SND.enable`: the oscillator is enabled. -/
def soundEnabled (c : Cfg) (x : Sound) : Bool := c.snd.enable x.snd05 x.snd06

/-- `dacLevel` (R294): a function of the channels and the registers (10_state.md R53). -/
def dacLevel (c : Cfg) (x : Sound) : Int :=
  c.snd.dac (x.ch.get 0).post (x.ch.get 1).post (c.snd.volume x.snd05 x.snd06) (soundEnabled c x)

/-- `recordLevel(t)` (R302). -/
def recordLevel (c : Cfg) (t : Tick) (x : Sound) : Sound :=
  { x with sndEvents := x.sndEvents ++ [(t, dacLevel c x)] }

/-- One counter step of channel i at tick t (R292), on the generator and the interrupt flip-flop: a wrap is recorded
(R299) and may set the flip-flop (R300). -/
def stepChannel (c : Cfg) (t : Tick) (i : Fin 2) (x : Sound × Bool) : Sound × Bool :=
  let k := x.1.ch.get i
  if k.counter = 0xFFF#12 then
    let k' : ToneChannel := ⟨soundDiv c x.1 i, (k.post + 1) % c.postLen⟩
    (recordLevel c t { x.1 with ch := x.1.ch.set i.val k' i.isLt },
     x.2 || c.snd.irq i k'.post x.1.snd05 x.1.snd06)
  else ({ x.1 with ch := x.1.ch.set i.val { k with counter := k.counter + 1#12 } i.isLt }, x.2)

/-- The counter steps of one prescaled tick: both channels while the oscillator is enabled, else none. Channel 0 steps
before channel 1 (DESIGN CHOICE, log 39). -/
def soundStep (c : Cfg) (t : Tick) (x : Sound × Bool) : Sound × Bool :=
  if soundEnabled c x.1 then stepChannel c t 1 (stepChannel c t 0 x) else x

/-- The steps at the ticks `k * prescale`, `(k + 1) * prescale`, ..., `n` of them. -/
def soundSteps (c : Cfg) : Nat → Nat → Sound × Bool → Sound × Bool
  | 0, _, x => x
  | n + 1, k, x => soundSteps c n (k + 1) (soundStep c (BitVec.ofNat 64 (k * c.prescale)) x)

/-- `SoundCatchUp(t)` (R299): every step at a multiple of the prescale in `(sndTick, t]`. -/
def soundAdvance (c : Cfg) (t : Tick) (x : Sound × Bool) : Sound × Bool :=
  if t.toNat < x.1.sndTick.toNat then x
  else
    let p := x.1.sndTick.toNat / c.prescale
    let r := soundSteps c (t.toNat / c.prescale - p) (p + 1) x
    ({ r.1 with sndTick := t }, r.2)

/-- `SoundCatchUp(t)` on the state. -/
def State.soundCatchUp (c : Cfg) (t : Tick) (s : State) : State :=
  let r := soundAdvance c t (s.sound, s.intFF)
  (s.setSound r.1).setIntFF r.2

/-! ### Register writes (R296 to R298) -/

/-- A write to a sound register: catch up with the old value, store, record the level (R296). -/
def soundWrite (c : Cfg) (f : Sound → Sound) (s : State) : State :=
  let s1 := s.soundCatchUp c s.now
  s1.setSound (recordLevel c s1.now (f s1.sound))

/-- Port 0x04: frequency low byte (R296). -/
def sndFreqLWrite (c : Cfg) (v : Byte) (s : State) : State := soundWrite c (fun x => { x with snd04 := v }) s

/-- Port 0x05: frequency high bits and control (R297). -/
def sndFreqHWrite (c : Cfg) (v : Byte) (s : State) : State := soundWrite c (fun x => { x with snd05 := v }) s

/-- Port 0x06: volume and control (R298). -/
def sndVolWrite (c : Cfg) (v : Byte) (s : State) : State := soundWrite c (fun x => { x with snd06 := v }) s

/-! ### The expansion chips (R310 to R314, log 17) -/

/-- One tick of channel i's frequency divider, a function of its register pair (R311): its new phase and the number of
its wraps. -/
def toneTick (c : Cfg) (d : Dev) (i : Nat) (x : ToneReg) : Nat × Nat := c.dev.divider d i x.octave x.divisor x.phase

/-- One tick of a chip (R312): every channel's divider counts, the rest of the chip sees every wrap, and the level is
recorded when the tick changed it, not at every wrap (DESIGN CHOICE, log 17). -/
def chipStep (c : Cfg) (d : Dev) (t : Tick) (x : Chip) : Chip :=
  let r := x.tone.mapIdx (toneTick c d)
  let k := c.dev.chipTick d x.core (r.map Prod.snd) t
  { x with
    core := k
    tone := x.tone.mapIdx fun i y => { y with phase := (toneTick c d i y).1 }
    events :=
      if c.dev.chipLevel d k = c.dev.chipLevel d x.core then x.events
      else x.events ++ [(t, c.dev.chipLevel d k)] }

/-- The steps of `n` ticks from tick `k` on. -/
def chipSteps (c : Cfg) (d : Dev) : Nat → Nat → Chip → Chip
  | 0, _, x => x
  | n + 1, k, x => chipSteps c d n (k + 1) (chipStep c d (BitVec.ofNat 64 k) x)

/-- A chip caught up to tick t: no internal wrap is skipped (R312, R313). -/
def chipAdvance (c : Cfg) (d : Dev) (t : Tick) (x : Chip) : Chip :=
  if t.toNat < x.tick.toNat then x
  else { chipSteps c d (t.toNat - x.tick.toNat) (x.tick.toNat + 1) x with tick := t }

/-- A chip's level recorded at tick t. -/
def chipRecord (c : Cfg) (d : Dev) (t : Tick) (x : Chip) : Chip :=
  { x with events := x.events ++ [(t, c.dev.chipLevel d x.core)] }

/-- A change of one chip; a device that is no chip is left alone. -/
def State.overChip (f : Chip → Chip) (d : Dev) (s : State) : State :=
  match d with
  | .xsnd6 => s.setXsnd6 (f s.xsnd6)
  | .xsnd4 => s.setXsnd4 (f s.xsnd4)
  | .other _ => s

/-- A channel's register pair written, or its divider started again (R311). -/
def toneWrite (l : List ToneReg) : ToneWrite → List ToneReg
  | .octave i n => l.modify i fun x => { x with octave := n }
  | .divisor i n => l.modify i fun x => { x with divisor := n }
  | .phase i n => l.modify i fun x => { x with phase := n }

/-- The register pairs after an access. -/
def Chip.write (w : List ToneWrite) (x : Chip) : Chip := { x with tone := w.foldl toneWrite x.tone }

/-- A device that is a sound chip caught up to tick t. -/
def State.chipCatchUp (c : Cfg) (d : Dev) (t : Tick) (s : State) : State := s.overChip (chipAdvance c d t) d

/-! ### RENDER (R303 to R307) -/

/-- `levelAt(τ)` (R303): the last recorded level at or before tick t, else the level the last RENDER ended at. -/
def levelAt {α : Type} (base : α) (events : List (Tick × α)) (t : Nat) : α :=
  events.foldl (fun l e => if e.1.toNat ≤ t then e.2 else l) base

/-- A stereo pair added to another, exactly (R305). -/
def addPair (p q : Int × Int) : Int × Int := (p.1 + q.1, p.2 + q.2)

/-- `n` samples from sample number k on, accumulated into a buffer (R305). -/
def mixSamples (level : Nat → Int × Int) : Nat → Nat → List (Int × Int) → List (Int × Int)
  | 0, _, l => l
  | _ + 1, _, [] => []
  | n + 1, k, p :: l => addPair p (level k) :: mixSamples level n (k + 1) l

/-- The buffer RENDER answers with: the mix of the range, or a buffer the spec states no contents for when the operands
are outside R305's range (log 35). -/
def renderBuffer (c : Cfg) (buf : List (Int × Int)) (b e draws : Nat) (mixed : List (Int × Int)) : List (Int × Int) :=
  if renderRange buf b e then mixed else c.freeSamples draws

/-- The buffer and the generator after the samples `b .. e - 1` (R305): the events up to the end are consumed. -/
def Sound.render (c : Cfg) (buf : List (Int × Int)) (b e : Nat) (x : Sound) : List (Int × Int) × Sound :=
  (mixSamples (fun n => (levelAt x.sndBase x.sndEvents (sampleTick c n), levelAt x.sndBase x.sndEvents (sampleTick c n)))
      (e - b) b buf,
   { x with
     sndBase := levelAt x.sndBase x.sndEvents (sampleTick c e)
     sndEvents := x.sndEvents.filter fun p => decide (sampleTick c e < p.1.toNat)
     lastEnd := e })

/-- The same for a chip, in stereo (R312). -/
def Chip.render (c : Cfg) (buf : List (Int × Int)) (b e : Nat) (x : Chip) : List (Int × Int) × Chip :=
  (mixSamples (fun n => levelAt x.base x.events (sampleTick c n)) (e - b) b buf,
   { x with
     base := levelAt x.base x.events (sampleTick c e)
     events := x.events.filter fun p => decide (sampleTick c e < p.1.toNat)
     lastEnd := e })

/-- The end of the generator's previous RENDER (R305). -/
def State.renderedTo (s : State) : Gen → Nat
  | .builtin => s.sound.lastEnd
  | .xsnd6 => s.xsnd6.lastEnd
  | .xsnd4 => s.xsnd4.lastEnd

/-- The precondition of RENDER (R305): not ahead of time, not overlapping. -/
def State.canRender (c : Cfg) (g : Gen) (b e : Nat) (s : State) : Bool :=
  decide (sampleTick c e ≤ s.now.toNat) && decide (s.renderedTo g ≤ b)

/-- The generator caught up to the end of the range and rendered (R305). A chip that no slot holds is rendered like any
other (log 17). -/
def State.renderGen (c : Cfg) (g : Gen) (buf : List (Int × Int)) (b e : Nat) (s : State) : List (Int × Int) × State :=
  let t : Tick := BitVec.ofNat 64 (sampleTick c e)
  match g with
  | .builtin =>
    let s1 := s.soundCatchUp c t
    let r := s1.sound.render c buf b e
    (r.1, s1.setSound r.2)
  | .xsnd6 =>
    let r := (chipAdvance c .xsnd6 t s.xsnd6).render c buf b e
    (r.1, s.setXsnd6 r.2)
  | .xsnd4 =>
    let r := (chipAdvance c .xsnd4 t s.xsnd4).render c buf b e
    (r.1, s.setXsnd4 r.2)

/-- RENDER with a configuration: the rendered range is handed over as a snapshot (R305, R307). The snapshot is the whole
accumulated buffer (log 36). -/
def renderOp (c : Cfg) (g : Gen) (buf : List (Int × Int)) (b e : Nat) (s : State) :
    Host.Outcome State Fault Refusal :=
  if s.canRender c g b e then
    let r := s.renderGen c g buf b e
    let out := renderBuffer c buf b e s.draws r.1
    answer (.samples out)
      ((r.2.setAudioOut (r.2.audioOut ++ [⟨g, b, e, out⟩])).setDraws
        (if renderRange buf b e then s.draws else s.draws + 1))
  else done s.refuse

/-! ### Meanings -/

/-- RENDER (R305). -/
def execRender (g : Gen) (buf : List (Int × Int)) (b e : Nat) (s : State) : Host.Outcome State Fault Refusal :=
  renderOp Config.cfg g buf b e s

/-- OUT_SNDFREQL (R296). -/
def execOutSndfreql (v : Byte) (s : State) : Host.Outcome State Fault Refusal := done (sndFreqLWrite Config.cfg v s)

/-- OUT_SNDFREQH (R297). -/
def execOutSndfreqh (v : Byte) (s : State) : Host.Outcome State Fault Refusal := done (sndFreqHWrite Config.cfg v s)

/-- OUT_SNDVOL (R298). -/
def execOutSndvol (v : Byte) (s : State) : Host.Outcome State Fault Refusal := done (sndVolWrite Config.cfg v s)

end Sys2Proof.Machine
end

