-- ==== Sys2Proof/Machine/Devices.lean ====
section
/-! DEFINITION. Peripherals the spec gives a contract only (46_backplane.md R400, 44_sound.md R310): their port handlers,
memory windows, Reset and PeriodicCallback, each an uninterpreted function of the device's own state and of the tick counter
(47_timing.md, log 14). What such a function cannot do is log 44. -/

namespace Sys2Proof.Machine

/-! ### Accesses -/

/-- What every access to a device leaves (R400): its new state number and, for a sound chip, the register pairs written
and the level recorded (44_sound.md R311, R313). -/
def State.accessed (c : Cfg) (d : Dev) (a : Access) (core : Nat) (s : State) : State :=
  (s.setCore d core).overChip (fun x => chipRecord c d s.now (x.write (c.dev.toneWrites d (s.core c d) a))) d

/-- A device's port read (R199, R406): it gets the full address and the in/out byte. A sound chip is caught up first
(R313), here and in every other access. The handler makes no registrations (R200; DESIGN CHOICE, log 44). -/
def devPortRead (c : Cfg) (d : Dev) (a : Word) (v : Byte) (s : State) : Byte × State :=
  let s1 := s.chipCatchUp c d s.now
  let r := c.dev.portRead d (s1.core c d) s.now a v
  (r.1, s1.accessed c d (.portRead a v) r.2)

/-- A device's port write (R199, R313, R406). It makes no registrations (R200; DESIGN CHOICE, log 44). -/
def devPortWrite (c : Cfg) (d : Dev) (a : Word) (v : Byte) (s : State) : State :=
  let s1 := s.chipCatchUp c d s.now
  s1.accessed c d (.portWrite a v) (c.dev.portWrite d (s1.core c d) s.now a v)

/-- A device's `MemoryRead` (R400). -/
def devMemRead (c : Cfg) (d : Dev) (o : BitVec 14) (s : State) : Byte × State :=
  let s1 := s.chipCatchUp c d s.now
  let r := c.dev.memRead d (s1.core c d) s.now o
  (r.1, s1.accessed c d (.memRead o) r.2)

/-- A device's `MemoryWrite` (R400). -/
def devMemWrite (c : Cfg) (d : Dev) (o : BitVec 14) (v : Byte) (s : State) : State :=
  let s1 := s.chipCatchUp c d s.now
  s1.accessed c d (.memWrite o v) (c.dev.memWrite d (s1.core c d) s.now o v)

/-- A device's Reset (R411). It makes no registrations (R200; DESIGN CHOICE, log 44). -/
def devReset (c : Cfg) (d : Dev) (s : State) : State :=
  let s1 := s.chipCatchUp c d s.now
  s1.accessed c d .reset (c.dev.reset d (s1.core c d) s.now)

/-- A device's PeriodicCallback(t) (R410): a sound chip catches up (44_sound.md R313), another device does what its model
says, once per tick. It makes no registrations (DESIGN CHOICE, log 44). -/
def devPeriodic (c : Cfg) (d : Dev) (t : Tick) (s : State) : State :=
  match d with
  | .xsnd6 | .xsnd4 => s.chipCatchUp c d t
  | .other n => s.setCore d (c.periodic n (s.core c d) t)

/-! ### Windows (20_memory.md R84, R95) -/

/-- `p.hasMem` (R400). The FDC's rules give it no memory window (log 13). -/
def hasMem (c : Cfg) : Periph → Bool
  | .fdc => false
  | .dev d => c.dev.hasMem d

/-- `p.MemoryRead(o)`. The FDC's rules give no byte for it, so it is a draw (log 38). -/
def periphMemRead (c : Cfg) (p : Periph) (o : BitVec 14) (s : State) : Byte × State :=
  match p with
  | .fdc => drawByte c s
  | .dev d => devMemRead c d o s

/-- `p.MemoryWrite(o, v)`. The FDC's rules give it no effect. -/
def periphMemWrite (c : Cfg) (p : Periph) (o : BitVec 14) (v : Byte) (s : State) : State :=
  match p with
  | .fdc => s
  | .dev d => devMemWrite c d o v s

/-- A read through a card's window: a slot that holds no card with a memory window reads 0xFF (R84, R95). -/
def cardRead (c : Cfg) (p : Option Periph) (o : BitVec 14) (s : State) : Byte × State :=
  match p with
  | some p => if hasMem c p then periphMemRead c p o s else (0xFF#8, s)
  | none => (0xFF#8, s)

/-- A write through a card's window, lost on a slot that holds no card with a memory window. -/
def cardWrite (c : Cfg) (p : Option Periph) (o : BitVec 14) (v : Byte) (s : State) : State :=
  match p with
  | some p => if hasMem c p then periphMemWrite c p o v s else s
  | none => s

/-- A read through the cartridge's window: whatever is in the socket answers (R84, R402, log 38), and an empty socket
reads 0xFF. -/
def cartRead (c : Cfg) (p : Option Periph) (o : BitVec 14) (s : State) : Byte × State :=
  match p with
  | some p => periphMemRead c p o s
  | none => (0xFF#8, s)

/-- A write through the cartridge's window, lost on an empty socket. -/
def cartWrite (c : Cfg) (p : Option Periph) (o : BitVec 14) (v : Byte) (s : State) : State :=
  match p with
  | some p => periphMemWrite c p o v s
  | none => s

/-! ### Pages (R84, R90) -/

/-- The card slot the EXT binding shows (R90). -/
def State.extSlot (c : Cfg) (s : State) : Fin 4 := c.mem.extSel s.paging.port03

/-- The reader of a tag at an offset. -/
def tagRead (c : Cfg) (t : Tag) (o : BitVec 14) (s : State) : Byte × State :=
  match t with
  | .sys => (romByte s.sysRom o.toNat, s)
  | .ext =>
    if o.toNat < c.mem.extSplit then cardRead c (s.card.get (s.extSlot c)) o s
    else (romByte s.extRom (o.toNat - c.mem.extSplit), s)
  | .u k => (s.mem.read (userCell k o), s)
  | .vid b => (s.mem.read (videoCell b o), s)
  | .cart => cartRead c s.cart o s
  | .card k => cardRead c (s.card.get k) o s

/-- The writer of a tag at an offset: ROM writes are discarded (R92). -/
def tagWrite (c : Cfg) (t : Tag) (o : BitVec 14) (v : Byte) (s : State) : State :=
  match t with
  | .sys => s
  | .ext => if o.toNat < c.mem.extSplit then cardWrite c (s.card.get (s.extSlot c)) o v s else s
  | .u k => s.setMem (s.mem.write (userCell k o) v)
  | .vid b => s.setMem (s.mem.write (videoCell b o) v)
  | .cart => cartWrite c s.cart o v s
  | .card k => cardWrite c (s.card.get k) o v s

end Sys2Proof.Machine
end

