-- ==== Sys2Proof/Machine/Fdc.lean ====
section
/-! DEFINITION. The floppy disk controller and its drives (45_fdc.md): register access, the commands, the periodic
callback and the reset handler. A command's rule is a function to `Option Fdc`, with none for a refused command. -/

namespace Sys2Proof.Machine

/-! ### Drives -/

/-- Drive k replaced. -/
def Fdc.setDrive (f : Fdc) (k : Fin 4) (d : Drive) : Fdc := { f with drive := f.drive.set k.val (some d) k.isLt }

/-- A change of the drive the operation runs on, if there is one. -/
def Fdc.overOperating (g : Drive → Drive) (f : Fdc) : Fdc :=
  match f.fopDrive, f.operating with
  | some k, some d => f.setDrive k (g d)
  | _, _ => f

/-- The head moved by n physical tracks, clamped to the geometry (R350); on a geometry without tracks to track 0 (DESIGN
CHOICE, log 37). -/
def Drive.step (n : Int) (d : Drive) : Drive :=
  { d with phys := (max 0 (min (d.phys + n) ((d.geom.tracks - 1 : Nat) : Int))).toNat }

/-- The sector counter moves on after an ID read (R363); on a geometry without sectors it counts up (DESIGN CHOICE,
log 37). -/
def Drive.nextSector (d : Drive) : Drive := { d with sector := d.sector % d.geom.sectorsPerTrack + 1 }

/-! ### Register access (section 1) -/

/-- FDC window +1 write (R333). -/
def fdcTrackWrite (v : Byte) (f : Fdc) : Fdc := { f with ftr := v }

/-- FDC window +2 write (R335). -/
def fdcSectorWrite (v : Byte) (f : Fdc) : Fdc := { f with fsr := v }

/-- A track write is in progress. -/
def Fdc.writingTrack (f : Fdc) : Bool :=
  decide (f.fop = .trackWriteWaitForIndex) || decide (f.fop = .trackWriteGap) ||
    decide (f.fop = .trackWriteIdAddr) || decide (f.fop = .trackWriteData)

/-- FDC window +3 write (R336). -/
def fdcDataWrite (v : Byte) (f : Fdc) : Fdc := { f with fdr := v, drq := f.drq && !f.writingTrack }

/-- FDC window +3 read: DRQ falls (R343). -/
def fdcDataTaken (f : Fdc) : Fdc := { f with drq := false }

/-- FDC window +0 read: INTRQ falls (R342). -/
def fdcStatusTaken (f : Fdc) : Fdc := { f with intrq := false }

/-- Drive-select write (R334). -/
def fdcCtrlWrite (c : Cfg) (v : Byte) (f : Fdc) : Fdc :=
  { f with fcur := (c.fdc.ctrlDecode v).1, fside := (c.fdc.ctrlDecode v).2 }

/-! ### Type I (section 2) -/

/-- `SeekComplete(n, t')` (R350). -/
def seekComplete (n : Int) (t' : Byte) (f : Fdc) : Fdc :=
  { f.overOperating (Drive.step n) with ftr := t', fop := .none, intrq := true }

/-- The common Type-I start (R344). -/
def typeIStart (c : Cfg) (now : Tick) (h : Bool) (r : BitVec 2) (n : Int) (t' : Byte) (f : Fdc) : Fdc :=
  let g := { f with fmode := .typeI, headLoad := h, rnf := false }
  let delay := n.natAbs * c.stepTicks r
  if c.fdc.fast || decide (delay = 0) then seekComplete n t' g
  else { g with fop := .seek, fstart := now, fdelay := BitVec.ofNat 64 delay, fpending := (n, t') }

/-- RESTORE (R345). -/
def fdcRestore (c : Cfg) (now : Tick) (h : Bool) (r : BitVec 2) (f : Fdc) : Option Fdc :=
  let n : Int :=
    match f.current with
    | some d => -(d.phys : Int)
    | none => 0
  some (typeIStart c now h r n 0#8 f)

/-- SEEK (R346). -/
def fdcSeek (c : Cfg) (now : Tick) (h : Bool) (r : BitVec 2) (f : Fdc) : Option Fdc :=
  some (typeIStart c now h r ((f.fdr.toNat : Int) - f.ftr.toNat) f.fdr { f with ftarget := f.fdr })

/-- One step in a direction, with the track register's new value when `u` is set. -/
def stepStart (c : Cfg) (now : Tick) (u h : Bool) (r : BitVec 2) (dir : StepDir) (f : Fdc) : Fdc :=
  match dir with
  | .inward => typeIStart c now h r 1 (if u then f.ftr + 1#8 else f.ftr) f
  | .outward => typeIStart c now h r (-1) (if u then f.ftr - 1#8 else f.ftr) f

/-- STEP: the direction of the last STEPIN or STEPOUT (R347). -/
def fdcStep (c : Cfg) (now : Tick) (u h : Bool) (r : BitVec 2) (f : Fdc) : Option Fdc :=
  some (stepStart c now u h r f.fstepDir f)

/-- STEPIN (R348). -/
def fdcStepin (c : Cfg) (now : Tick) (u h : Bool) (r : BitVec 2) (f : Fdc) : Option Fdc :=
  some (stepStart c now u h r .inward { f with fstepDir := .inward })

/-- STEPOUT (R349). -/
def fdcStepout (c : Cfg) (now : Tick) (u h : Bool) (r : BitVec 2) (f : Fdc) : Option Fdc :=
  some (stepStart c now u h r .outward { f with fstepDir := .outward })

/-! ### Types II, III and IV (sections 3 to 6) -/

/-- The abort of a command that finds nothing: NOTFOUND and INTRQ (R355, R362). -/
def notFound (f : Fdc) : Fdc := { f with rnf := true, intrq := true, fop := .none }

/-- READSEC, single sector; a multiple-sector read is refused (R355). -/
def fdcReadsec (now : Tick) (m : Bool) (f : Fdc) : Option Fdc :=
  let g := { f with fmode := .typeII, rnf := false, lostData := false, drq := false }
  if m then none
  else
    match f.fcur, f.current, f.current.bind Drive.image with
    | some k, some d, some i =>
      if f.ftr.toNat = d.logical ∧ 1 ≤ f.fsr.toNat ∧ f.fsr.toNat ≤ d.geom.sectorsPerTrack then
        some
          { g.setDrive k { d with sector := f.fsr.toNat } with
            fbuf := readBlock d.geom i (blockNumber d.geom d.logical f.fside.val f.fsr.toNat)
            fidx := 0, fstart := now, fop := .sectorRead }
      else some (notFound g)
    | _, _, _ => some (notFound g)

/-- WRITESEC: refused (R372). -/
def fdcWritesec (_ : Fdc) : Option Fdc := none

/-- READADDR (R362). -/
def fdcReadaddr (now : Tick) (f : Fdc) : Option Fdc :=
  let g := { f with fmode := .typeIII, rnf := false, drq := false }
  if f.notReady then some (notFound g) else some { g with fop := .idReadWaitForIndex, flast := now }

/-- READTRK: refused (R372). -/
def fdcReadtrk (_ : Fdc) : Option Fdc := none

/-- WRITETRK (R365). -/
def fdcWritetrk (now : Tick) (f : Fdc) : Option Fdc :=
  let g := { f with fmode := .typeIII, rnf := false, lostData := false }
  if f.notReady then some { g with intrq := true, fop := .none }
  else some { g with fop := .trackWriteWaitForIndex, drq := true, flast := now, fwId := [], fwSector := [] }

/-- FORCEINT: `i[3]` raises INTRQ at once (R380). -/
def fdcForceint (i : BitVec 4) (f : Fdc) : Option Fdc :=
  some
    { f with
      fop := .none, drq := false, fidx := 0, fbuf := []
      fmode := if f.busy then f.fmode else .typeI
      intrq := f.intrq || i.getLsbD 3 }

/-! ### The command register (R332) -/

/-- A command byte is taken: it is kept, INTRQ falls, and an operation will run on the current drive. -/
def commandTaken (k : FdcCommand) (f : Fdc) : Fdc := { f with fcmd := k.byte, intrq := false, fopDrive := f.fcur }

/-- The command is Force-Interrupt (type IV). -/
def isForceint : FdcCommand → Bool
  | .forceint _ => true
  | _ => false

/-- A command byte written to window +0 (R332): ignored while busy unless it is Force-Interrupt (R338), else taken
and run by its rule. -/
def fdcCommand (k : FdcCommand) (rule : Fdc → Option Fdc) (f : Fdc) : Option Fdc :=
  if f.busy && !isForceint k then some f else rule (commandTaken k f)

/-- A command byte's effect on the state: a refused command sets the mark and changes nothing else (R372, R149,
log 4). -/
def fdcRun (k : FdcCommand) (rule : Fdc → Option Fdc) (s : State) : State :=
  match fdcCommand k rule s.fdc with
  | some f => s.setFdc f
  | none => s.refuse

/-- A command run by the rule of its row (R332). -/
def runCommand (c : Cfg) (k : FdcCommand) (s : State) : State :=
  match k with
  | .restore h _ r => fdcRun k (fdcRestore c s.now h r) s
  | .seek h _ r => fdcRun k (fdcSeek c s.now h r) s
  | .step u h _ r => fdcRun k (fdcStep c s.now u h r) s
  | .stepin u h _ r => fdcRun k (fdcStepin c s.now u h r) s
  | .stepout u h _ r => fdcRun k (fdcStepout c s.now u h r) s
  | .readsec m _ _ _ _ => fdcRun k (fdcReadsec s.now m) s
  | .writesec _ _ _ _ _ => fdcRun k fdcWritesec s
  | .readaddr _ _ _ _ => fdcRun k (fdcReadaddr s.now) s
  | .forceint i => fdcRun k (fdcForceint i) s
  | .readtrk _ _ _ _ => fdcRun k fdcReadtrk s
  | .writetrk _ _ _ _ => fdcRun k (fdcWritetrk s.now) s

/-! ### The periodic callback (R351, R357, R363, R366 to R368, R395) -/

/-- The byte of an ID field that codes the sector length; a draw when the length has no code (R363). -/
def lenCodeOr (c : Cfg) (draws len : Nat) : Byte := (lenCode len).getD (c.freeByte draws)

/-- The six bytes a READADDR returns (R151, R363); the CRC bytes are draws. -/
def idField (c : Cfg) (draws : Nat) (side : Fin 2) (d : Drive) : List Byte :=
  [BitVec.ofNat 8 d.logical, BitVec.ofNat 8 side.val, BitVec.ofNat 8 d.sector,
   lenCodeOr c (draws + 2) d.geom.sectorLen, c.freeByte draws, c.freeByte (draws + 1)]

/-- The draws an ID field takes. -/
def idDraws : Nat := 3

/-- An index edge at tick t (R363, R366, R368), on the FDC and the number of draws. -/
def fdcEdge (c : Cfg) (t : Tick) (x : Fdc × Nat) : Fdc × Nat :=
  let f := x.1
  match f.fop with
  | .idReadWaitForIndex =>
    match f.operating with
    | some d =>
      ({ f with fbuf := idField c x.2 f.fside d, fidx := 0, fstart := t, fop := .idRead }, x.2 + idDraws)
    | none => x
  | .trackWriteWaitForIndex => ({ f with fop := .trackWriteGap, fstart := t, fidx := 0 }, x.2)
  | .trackWriteGap | .trackWriteIdAddr | .trackWriteData =>
    if f.fstart.toNat < t.toNat then ({ f with fop := .none, drq := false, intrq := true }, x.2) else x
  | .none | .seek | .idRead | .sectorRead => x

/-- One byte of a read released (R357). -/
def releaseByte (c : Cfg) (f : Fdc) : Fdc :=
  { f with
    lostData := f.lostData || (f.drq && c.lostData)
    fdr := f.fbuf.getD f.fidx 0#8
    drq := true
    fidx := f.fidx + 1 }

/-- `WriteSector()` (R367): to a writable image, when the sector number and the length fit the geometry. -/
def writeSector (f : Fdc) : Fdc :=
  let n := (f.fwId.getD 2 0#8).toNat
  f.overOperating fun d =>
    match d.image with
    | some i =>
      if i.wp = false ∧ 1 ≤ n ∧ n ≤ d.geom.sectorsPerTrack ∧ f.fwSector.length = d.geom.sectorLen then
        { d with image := some (writeBlock d.geom i (blockNumber d.geom d.logical f.fside.val n) f.fwSector) }
      else d
    | none => d

/-- The sector length an ID field announces: `128 << (id[3] mod 4)` (R366). -/
def announcedLen (id : List Byte) : Nat := 128 * 2 ^ ((id.getD 3 0#8).toNat % 4)

/-- `interpret(b)` (R366). -/
def interpretByte (b : Byte) (f : Fdc) : Fdc :=
  match f.fop with
  | .trackWriteGap =>
    if b = 0xFE#8 then { f with fop := .trackWriteIdAddr, fwId := [] }
    else if b = 0xFB#8 ∧ f.fwId.length = 4 then { f with fop := .trackWriteData, fwSector := [] }
    else f
  | .trackWriteIdAddr =>
    let id := f.fwId ++ [b]
    { f with fwId := id, fop := if id.length = 4 then .trackWriteGap else .trackWriteIdAddr }
  | .trackWriteData =>
    let g := { f with fwSector := f.fwSector ++ [b] }
    if g.fwSector.length = announcedLen g.fwId then { writeSector g with fwId := [], fop := .trackWriteGap } else g
  | .none | .seek | .idReadWaitForIndex | .idRead | .sectorRead | .trackWriteWaitForIndex => f

/-- One byte slot of a track write (R366). -/
def takeByte (c : Cfg) (f : Fdc) : Fdc :=
  interpretByte f.fdr
    { f with
      lostData := f.lostData || (f.drq && c.lostData)
      drq := true
      fidx := f.fidx + 1 }

/-- The current operation has a byte slot to come. -/
def Fdc.streaming (f : Fdc) : Bool :=
  match f.fop with
  | .sectorRead | .idRead => decide (f.fidx < f.fbuf.length)
  | .trackWriteGap | .trackWriteIdAddr | .trackWriteData => true
  | .none | .seek | .idReadWaitForIndex | .trackWriteWaitForIndex => false

/-- A byte deadline passes. -/
def fdcByte (c : Cfg) (f : Fdc) : Fdc :=
  match f.fop with
  | .sectorRead | .idRead => releaseByte c f
  | .trackWriteGap | .trackWriteIdAddr | .trackWriteData => takeByte c f
  | .none | .seek | .idReadWaitForIndex | .trackWriteWaitForIndex => f

/-- The deadline of the next byte: `fstart + (fidx + 1) * P_BYTE_TICKS` (R357, R366). -/
def Fdc.deadline (c : Cfg) (f : Fdc) : Nat := f.fstart.toNat + (f.fidx + 1) * c.byteTicks

/-- A read whose bytes are all released is complete (R357, R363). -/
def streamDone (f : Fdc) : Fdc :=
  match f.fop with
  | .sectorRead => if f.fbuf.length ≤ f.fidx then { f with fop := .none, intrq := true } else f
  | .idRead =>
    if f.fbuf.length ≤ f.fidx then
      match f.operating with
      | some d =>
        { f.overOperating Drive.nextSector with fsr := BitVec.ofNat 8 d.logical, fop := .none, intrq := true }
      | none => { f with fop := .none, intrq := true }
    else f
  | .none | .seek | .idReadWaitForIndex | .trackWriteWaitForIndex | .trackWriteGap | .trackWriteIdAddr
  | .trackWriteData => f

/-- The index edges and byte deadlines in `(cur, t]`, in tick order, an edge before a byte at the same tick (R395). The
first argument is fuel for the number of events. -/
def fdcEvents (c : Cfg) (t : Nat) : Nat → Nat → Fdc × Nat → Fdc × Nat
  | 0, _, x => (streamDone x.1, x.2)
  | k + 1, cur, x =>
    let f := streamDone x.1
    let edge := nextEdge c cur
    let byte := f.deadline c
    if f.streaming && decide (byte ≤ t) && decide (byte < edge) then
      fdcEvents c t k (max cur byte) (fdcByte c f, x.2)
    else if edge ≤ t then fdcEvents c t k edge (fdcEdge c (BitVec.ofNat 64 edge) (f, x.2))
    else (f, x.2)

/-- The seek check (R351). -/
def seekPoll (t : Tick) (f : Fdc) : Fdc :=
  if f.fop = .seek ∧ f.fdelay.toNat ≤ (ticksSince t f.fstart).toNat then seekComplete f.fpending.1 f.fpending.2 f else f

/-- FDC PERIODIC(t) (R395). At most t edges and t byte deadlines lie at or before tick t (log 29). -/
def fdcPeriodic (c : Cfg) (t : Tick) (x : Fdc × Nat) : Fdc × Nat :=
  let r := fdcEvents c t.toNat (2 * t.toNat + 2) x.1.flast.toNat (seekPoll t x.1, x.2)
  ({ r.1 with flast := t }, r.2)

/-- FDC PERIODIC(t) on the state. -/
def State.fdcCallback (c : Cfg) (t : Tick) (s : State) : State :=
  let r := fdcPeriodic c t (s.fdc, s.draws)
  (s.setFdc r.1).setDraws r.2

/-! ### Reset and installation -/

/-- The FDC reset handler (R396). -/
def fdcReset (now : Tick) (f : Fdc) : Fdc :=
  { f with
    fop := .none, fmode := .typeI, drq := false, intrq := false, rnf := false, lostData := false
    headLoad := false, wpErr := false, fidx := 0, fbuf := [], fwId := [], fwSector := [], flast := now }

/-- A number as an optional drive number, onto all five values. -/
def drawnDrive (n : Nat) : Option (Fin 4) :=
  if h : n % 5 < 4 then some ⟨n % 5, h⟩ else none

/-- A drive whose head and sector counter are draws within the geometry (R66); its image is the host's and stays. -/
def Drive.fresh (c : Cfg) (draws : Nat) (d : Drive) : Drive :=
  { d with
    phys := c.freeNat draws % max 1 d.geom.tracks
    sector := c.freeNat (draws + 1) % max 1 d.geom.sectorsPerTrack + 1 }

/-- The draws a freshly installed FDC takes. -/
def freshDraws : Nat := 20

/-- The FDC in its own power-on state, as a fresh INSTALL starts it (46_backplane.md R402, log 25): the values the spec
leaves as draws (R58, R62, R63, R66) are free values. -/
def Fdc.fresh (c : Cfg) (now : Tick) (n : Nat) (f : Fdc) : Fdc :=
  { Fdc.powerOn c now with
    fcmd := c.freeByte n, ftr := c.freeByte (n + 1), fsr := c.freeByte (n + 2), fdr := c.freeByte (n + 3)
    fcur := drawnDrive (c.freeNat (n + 4))
    fside := if c.freeNat (n + 5) % 2 = 0 then 0 else 1
    fstart := BitVec.ofNat 64 (c.freeNat (n + 6))
    fdelay := BitVec.ofNat 64 (c.freeNat (n + 7))
    ftarget := c.freeByte (n + 8)
    fstepDir := if c.freeNat (n + 9) % 2 = 0 then .inward else .outward
    fpending := (unfoldInt (c.freeNat (n + 10)), c.freeByte (n + 11))
    drive := Vector.ofFn fun k => (f.drive.get k).map (Drive.fresh c (n + 12 + 2 * k.val)) }

/-- What stands in the FDC's place once it is removed (46_backplane.md R404, log 25): its power-on state, with the host's
images still in its drives. -/
def Fdc.dropped (c : Cfg) (now : Tick) (f : Fdc) : Fdc :=
  { Fdc.powerOn c now with drive := f.drive.map fun d => d.map fun d => { d with phys := 0, sector := 1 } }

/-! ### Meanings -/

/-- FDC_CMD_W (R332): the byte's command is run. This row and the other FDC rows act on the one FDC, whether or not a slot
holds its card (DESIGN CHOICE, log 12). -/
def execFdcCmdW (v : Byte) (s : State) : Host.Outcome State Fault Refusal :=
  done (runCommand Config.cfg (fdcCommandOf v) s)

/-- FDC_STATUS_R (R342). -/
def execFdcStatusR (s : State) : Host.Outcome State Fault Refusal :=
  answer (.byte (fdcStatus Config.cfg s.now s.fdc)) (s.setFdc (fdcStatusTaken s.fdc))

/-- FDC_TRACK_W (R333). -/
def execFdcTrackW (v : Byte) (s : State) : Host.Outcome State Fault Refusal := done (s.setFdc (fdcTrackWrite v s.fdc))

/-- FDC_TRACK_R (R333). -/
def execFdcTrackR (s : State) : Host.Outcome State Fault Refusal := answer (.byte s.fdc.ftr) s

/-- FDC_SECTOR_W (R335). -/
def execFdcSectorW (v : Byte) (s : State) : Host.Outcome State Fault Refusal := done (s.setFdc (fdcSectorWrite v s.fdc))

/-- FDC_SECTOR_R (R335). -/
def execFdcSectorR (s : State) : Host.Outcome State Fault Refusal := answer (.byte s.fdc.fsr) s

/-- FDC_DATA_W (R336). -/
def execFdcDataW (v : Byte) (s : State) : Host.Outcome State Fault Refusal := done (s.setFdc (fdcDataWrite v s.fdc))

/-- FDC_DATA_R (R343). -/
def execFdcDataR (s : State) : Host.Outcome State Fault Refusal :=
  answer (.byte s.fdc.fdr) (s.setFdc (fdcDataTaken s.fdc))

/-- FDC_CTRL_W (R334). -/
def execFdcCtrlW (v : Byte) (s : State) : Host.Outcome State Fault Refusal :=
  done (s.setFdc (fdcCtrlWrite Config.cfg v s.fdc))

/-- FDC_RESTORE (R345). -/
def execFdcRestore (h v : Bool) (r : BitVec 2) (s : State) : Host.Outcome State Fault Refusal :=
  done (runCommand Config.cfg (.restore h v r) s)

/-- FDC_SEEK (R346). -/
def execFdcSeek (h v : Bool) (r : BitVec 2) (s : State) : Host.Outcome State Fault Refusal :=
  done (runCommand Config.cfg (.seek h v r) s)

/-- FDC_STEP (R347). -/
def execFdcStep (u h v : Bool) (r : BitVec 2) (s : State) : Host.Outcome State Fault Refusal :=
  done (runCommand Config.cfg (.step u h v r) s)

/-- FDC_STEPIN (R348). -/
def execFdcStepin (u h v : Bool) (r : BitVec 2) (s : State) : Host.Outcome State Fault Refusal :=
  done (runCommand Config.cfg (.stepin u h v r) s)

/-- FDC_STEPOUT (R349). -/
def execFdcStepout (u h v : Bool) (r : BitVec 2) (s : State) : Host.Outcome State Fault Refusal :=
  done (runCommand Config.cfg (.stepout u h v r) s)

/-- FDC_READSEC (R355). -/
def execFdcReadsec (m sv e c x0 : Bool) (s : State) : Host.Outcome State Fault Refusal :=
  done (runCommand Config.cfg (.readsec m sv e c x0) s)

/-- FDC_WRITESEC (R372): refused in the spec's sense, the sticky mark is set (log 4). -/
def execFdcWritesec (m sv e c a0 : Bool) (s : State) : Host.Outcome State Fault Refusal :=
  done (runCommand Config.cfg (.writesec m sv e c a0) s)

/-- FDC_READADDR (R362). -/
def execFdcReadaddr (x3 e x1 x0 : Bool) (s : State) : Host.Outcome State Fault Refusal :=
  done (runCommand Config.cfg (.readaddr x3 e x1 x0) s)

/-- FDC_FORCEINT (R380). -/
def execFdcForceint (i : BitVec 4) (s : State) : Host.Outcome State Fault Refusal :=
  done (runCommand Config.cfg (.forceint i) s)

/-- FDC_READTRK (R372): refused in the spec's sense, the sticky mark is set (log 4). -/
def execFdcReadtrk (x3 e x1 x0 : Bool) (s : State) : Host.Outcome State Fault Refusal :=
  done (runCommand Config.cfg (.readtrk x3 e x1 x0) s)

/-- FDC_WRITETRK (R365). -/
def execFdcWritetrk (x3 e x1 x0 : Bool) (s : State) : Host.Outcome State Fault Refusal :=
  done (runCommand Config.cfg (.writetrk x3 e x1 x0) s)

end Sys2Proof.Machine
end

