-- ==== Sys2Proof/Machine/SystemPorts.lean ====
section
/-! DEFINITION. The base machine's port handlers for paging, the interrupt flip-flop, the keyboard and the ack status
(42_system_ports.md), and the mapper's reset handler. -/

namespace Sys2Proof.Machine

/-- Port 0x02: page-mapping control (R214). -/
def pagingWrite (c : Cfg) (v : Byte) (s : State) : State :=
  s.setPaging (rebind c v s.paging.port03 s.paging.pagePort3)

/-- Port 0x03: ext-memory select, tape motor, keyboard row (R216). -/
def extSelWrite (c : Cfg) (v : Byte) (s : State) : State :=
  s.setPaging (rebind c s.paging.port02 v s.paging.pagePort3)

/-- The third paging-control port (R218). With `P_PAGE_PORT3 = none` the handler does not exist and the latch keeps its
value (10_state.md R39). -/
def page3Write (c : Cfg) (v : Byte) (s : State) : State :=
  if c.pagePort3.isSome then s.setPaging (rebind c s.paging.port02 s.paging.port03 v) else s

/-- The mapper's reset handler (R220). -/
def mapperReset (c : Cfg) (s : State) : State := s.setPaging (rebind c 0#8 0#8 0#8)

/-- Port 0x07: interrupt clear, after the sound catch-up; the value is ignored (R222). -/
def intClrWrite (c : Cfg) (_ : Byte) (s : State) : State := (s.soundCatchUp c s.now).clearInt

/-- Port 0x58: the keyboard row selected by port03 (R226). -/
def kbdRead (c : Cfg) (s : State) : Byte × State := (s.kbd.get (c.mem.kbdRow s.paging.port03), s)

/-- Port 0x59: the flip-flop after the sound catch-up; the other bits are a draw (R228, R135). -/
def intStatRead (c : Cfg) (s : State) : Byte × State :=
  let r := drawByte c (s.soundCatchUp c s.now)
  (intStatusByte c r.2.intFF r.1, r.2)

/-- Port 0x5B: a draw (R230, R137). -/
def ackStatRead (c : Cfg) (s : State) : Byte × State := drawByte c s

/-! ### Meanings -/

/-- OUT_PAGING (R214). -/
def execOutPaging (v : Byte) (s : State) : Host.Outcome State Fault Refusal := done (pagingWrite Config.cfg v s)

/-- OUT_EXTSEL (R216). -/
def execOutExtsel (v : Byte) (s : State) : Host.Outcome State Fault Refusal := done (extSelWrite Config.cfg v s)

/-- OUT_PAGE3 (R218). -/
def execOutPage3 (v : Byte) (s : State) : Host.Outcome State Fault Refusal := done (page3Write Config.cfg v s)

/-- OUT_INTCLR (R222). -/
def execOutIntclr (v : Byte) (s : State) : Host.Outcome State Fault Refusal := done (intClrWrite Config.cfg v s)

/-- IN_KBD (R226). -/
def execInKbd (s : State) : Host.Outcome State Fault Refusal := answerByte (kbdRead Config.cfg s)

/-- IN_INTSTAT (R228). -/
def execInIntstat (s : State) : Host.Outcome State Fault Refusal := answerByte (intStatRead Config.cfg s)

/-- IN_ACKSTAT (R230). -/
def execInAckstat (s : State) : Host.Outcome State Fault Refusal := answerByte (ackStatRead Config.cfg s)

end Sys2Proof.Machine
end

