-- ==== Sys2Proof/Machine/Video.lean ====
section
/-! DEFINITION. The video controller (43_video.md): the CRTC and graphics-mode ports, and RENDERLINE's raster state
machine. -/

namespace Sys2Proof.Machine

/-! ### Port handlers -/

/-- Port 0x00: border colour (42_system_ports.md R212). -/
def borderWrite (v : Byte) (s : State) : State := s.setVideo { s.video with border := v }

/-- Port 0x60 + i: palette entry i (R232). -/
def paletteWrite (i : Fin 4) (v : Byte) (s : State) : State :=
  s.setVideo { s.video with palette := s.video.palette.set i.val v i.isLt }

/-- Port 0x70: CRTC register address (R252). -/
def crtcAddrWrite (v : Byte) (s : State) : State := s.setVideo { s.video with crtcIdx := v.extractLsb' 0 5 }

/-- Port 0x71 write: CRTC register data; an index of 18 or more selects nothing (R253). -/
def crtcDataWrite (v : Byte) (s : State) : State :=
  match crtcSelect s.video.crtcIdx with
  | some i => s.setVideo { s.video with crtc := s.video.crtc.set i.val v i.isLt }
  | none => s

/-- Port 0x71 read: a readable register, else a draw (R254). -/
def crtcDataRead (c : Cfg) (s : State) : Byte × State :=
  match crtcSelect s.video.crtcIdx with
  | some i => if c.video.crtcRead s.video.crtcIdx.toFin then (s.video.crtc.get i, s) else drawByte c s
  | none => drawByte c s

/-- The graphics-mode port (R255). -/
def gfxModeWrite (v : Byte) (s : State) : State := s.setVideo { s.video with gfxLatch := v }

/-! ### Painting -/

/-- A pixel with its dim value (R266). -/
def dot (c : Cfg) (p : Pixel) : Pixel × Pixel := (p, c.video.dim p)

/-- The border's output pixel (R265). -/
def borderPixel (c : Cfg) (v : Video) : Pixel := c.video.color v.border

/-- The output pixels of one byte of video RAM, from left to right (R263 to R265). -/
def unpack (c : Cfg) (v : Video) (b : Byte) : List Pixel :=
  match gfxMode c v with
  | .m2 =>
    [7, 6, 5, 4, 3, 2, 1, 0].map fun i =>
      c.video.color (v.palette.get (if b.getLsbD i then 1 else 0))
  | .m4 => ([0, 1, 2, 3] : List (Fin 4)).map fun i => c.video.color (v.palette.get (c.video.unpack4 b i))
  | .m16 => ([0, 1] : List (Fin 2)).map fun i => c.video.color ((c.video.unpack16 b i).setWidth 8)

/-- The pixels of `n` characters from memory address `ma` on, and the address after them, which wraps mod 2^14 (R261,
R270). -/
def fetchChars (c : Cfg) (v : Video) (bank : Nat) (mem : Memory) : Nat → BitVec 14 → List Pixel × BitVec 14
  | 0, ma => ([], ma)
  | n + 1, ma =>
    let b := mem.read (videoCell bank (c.video.videoAddr ma v.ra))
    let r := fetchChars c v bank mem n (ma + 1#14)
    (unpack c v b ++ r.1, r.2)

/-- Row L of the frame being painted takes a value; rows before it that were never painted are empty (log 18). -/
def setRow (buf : Frame) (l : Nat) (row : Row) : Frame :=
  if l < buf.length then buf.set l row
  else buf ++ List.replicate (l - buf.length) [] ++ [row]

/-- Raster reload at the first visible line (R260). -/
def reloadRaster (v : Video) : Video := { v with ma := v.startAddr, rowStart := v.startAddr, ra := 0#2 }

/-- The cursor match at the start of a displayed line: on a character row's first scanline only (R268). -/
def cursorMatch (v : Video) : Bool :=
  decide (v.ra = 0#2) && decide ((v.cursorAddr - v.rowStart).toNat < v.displayedChars)

/-- The end of a displayed line, with `ma` the address after its characters (R262). -/
def endDisplayLine (ma : BitVec 14) (v : Video) : Video :=
  if v.ra + 1#2 = 0#2 then { v with ra := 0#2, rowStart := ma, ma := ma }
  else { v with ra := v.ra + 1#2, ma := v.rowStart }

/-- A displayed line: border, characters, border (R261), then the row counters (R262). -/
def paintDisplayLine (c : Cfg) (bank : Nat) (mem : Memory) (v : Video) : Video :=
  let r := fetchChars c v bank mem v.displayedChars v.ma
  let row :=
    List.replicate c.video.leftBorder (borderPixel c v) ++ r.1 ++ List.replicate c.video.rightBorder (borderPixel c v)
  endDisplayLine r.2 { v with frameBuf := setRow v.frameBuf v.line (row.map (dot c)) }

/-- A line outside the display window: all border (R265). -/
def paintBorderLine (c : Cfg) (v : Video) : Video :=
  { v with
    frameBuf := setRow v.frameBuf v.line (List.replicate c.video.frameWidth (dot c (borderPixel c v))) }

/-- A noise line: every pixel a draw, the raster counters still (R267, log 20). -/
def paintNoiseLine (c : Cfg) (draws : Nat) (v : Video) : Video :=
  { v with
    frameBuf :=
      setRow v.frameBuf v.line ((List.range c.video.frameWidth).map fun i => dot c (c.freeNat (draws + i))) }

/-- `inWindow(L)` (R258). -/
def inWindow (c : Cfg) (v : Video) : Bool :=
  decide (c.video.firstVisible ≤ v.line) && decide (v.line < c.video.firstVisible + 4 * v.displayedRows)

/-- The displayed bank (20_memory.md R94). -/
def State.dispBank (c : Cfg) (s : State) : Nat :=
  c.dispBank s.paging.port02 s.paging.port03 s.paging.pagePort3 s.video.gfxLatch

/-- A line of a valid configuration, before the line index moves on (R258). -/
def paintValidLine (c : Cfg) (s : State) : State :=
  let v := if s.video.line = c.video.firstVisible then reloadRaster s.video else s.video
  if inWindow c v then
    (s.setVideo (paintDisplayLine c (s.dispBank c) s.mem v)).setIntFF (s.intFF || cursorMatch v)
  else s.setVideo (paintBorderLine c v)

/-- A line of an invalid configuration: as many draws as the line has pixels (R267). -/
def paintNoise (c : Cfg) (s : State) : State :=
  (s.setVideo (paintNoiseLine c s.draws s.video)).setDraws (s.draws + c.video.frameWidth)

/-- The line index moves on; after the last line the frame is handed over as a copy and counted (R258, R269). -/
def advanceLine (c : Cfg) (s : State) : State :=
  if s.video.line + 1 = c.linesPerFrame then
    (s.setFrameOut (s.frameOut ++ [s.video.frameBuf])).setVideo
      { s.video with line := 0, frameCount := s.video.frameCount + 1#64 }
  else s.setVideo { s.video with line := s.video.line + 1 }

/-- RENDERLINE with a configuration (R258). -/
def renderLine (c : Cfg) (s : State) : State :=
  advanceLine c (if crtcValid c s.video then paintValidLine c s else paintNoise c s)

/-! ### Meanings -/

/-- RENDERLINE (R258). -/
def execRenderline (s : State) : Host.Outcome State Fault Refusal := done (renderLine Config.cfg s)

/-- OUT_BORDER (R212). -/
def execOutBorder (v : Byte) (s : State) : Host.Outcome State Fault Refusal := done (borderWrite v s)

/-- OUT_PAL0 (R232). -/
def execOutPal0 (v : Byte) (s : State) : Host.Outcome State Fault Refusal := done (paletteWrite 0 v s)

/-- OUT_PAL1 (R232). -/
def execOutPal1 (v : Byte) (s : State) : Host.Outcome State Fault Refusal := done (paletteWrite 1 v s)

/-- OUT_PAL2 (R232). -/
def execOutPal2 (v : Byte) (s : State) : Host.Outcome State Fault Refusal := done (paletteWrite 2 v s)

/-- OUT_PAL3 (R232). -/
def execOutPal3 (v : Byte) (s : State) : Host.Outcome State Fault Refusal := done (paletteWrite 3 v s)

/-- OUT_CRTCADDR (R252). -/
def execOutCrtcaddr (v : Byte) (s : State) : Host.Outcome State Fault Refusal := done (crtcAddrWrite v s)

/-- OUT_CRTCDATA (R253). -/
def execOutCrtcdata (v : Byte) (s : State) : Host.Outcome State Fault Refusal := done (crtcDataWrite v s)

/-- IN_CRTCDATA (R254). -/
def execInCrtcdata (s : State) : Host.Outcome State Fault Refusal := answerByte (crtcDataRead Config.cfg s)

/-- OUT_GFXMODE (R255). -/
def execOutGfxmode (v : Byte) (s : State) : Host.Outcome State Fault Refusal := done (gfxModeWrite v s)

end Sys2Proof.Machine
end

