-- ==== Sys2Proof/Machine/Handlers.lean ====
section
/-! DEFINITION. What each handler identity does (41_portbus.md R199), and the chains a port operation runs (R190 to R192,
R200, R204). -/

namespace Sys2Proof.Machine

/-- Port 0x5A: the card IDs, two bits per slot, composed from 0x00 (46_backplane.md R408, 30_encoding.md R136). -/
def cardIdOf (c : Cfg) (s : State) (k : Fin 4) : BitVec 2 :=
  match s.card.get k with
  | some p => (periphId c (s.core c) p).extractLsb' 0 2
  | none => c.emptyId

/-- The byte of port 0x5A: slot 3's ID in the high bits, slot 0's in the low bits. -/
def cardIdByte (c : Cfg) (s : State) : Byte :=
  cardIdOf c s 3 ++ cardIdOf c s 2 ++ cardIdOf c s 1 ++ cardIdOf c s 0

/-- A reader (R199): from the in/out byte, the new one, with its state change. -/
def runReader (c : Cfg) (h : Reader) (a : Word) (v : Byte) (s : State) : Byte × State :=
  match h with
  | .kbd => kbdRead c s
  | .intStat => intStatRead c s
  | .cardId => (cardIdByte c s, s)
  | .ackStat => ackStatRead c s
  | .crtcData => crtcDataRead c s
  | .fdcStatus => (fdcStatus c s.now s.fdc, s.setFdc (fdcStatusTaken s.fdc))
  | .fdcTrack => (s.fdc.ftr, s)
  | .fdcSector => (s.fdc.fsr, s)
  | .fdcData => (s.fdc.fdr, s.setFdc (fdcDataTaken s.fdc))
  | .fdcLines => (c.fdc.linesByte s.fdc.intrq s.fdc.drq v, s)
  | .dev d => devPortRead c d a v s
  | .ext n =>
    let r := c.ext.read n (s.extState n) s.now a v
    (r.1, s.extDone n r.2.1 r.2.2)

/-- A writer (R199). -/
def runWriter (c : Cfg) (h : Writer) (a : Word) (v : Byte) (s : State) : State :=
  match h with
  | .border => borderWrite v s
  | .paging => pagingWrite c v s
  | .extSel => extSelWrite c v s
  | .page3 => page3Write c v s
  | .sndFreqL => sndFreqLWrite c v s
  | .sndFreqH => sndFreqHWrite c v s
  | .sndVol => sndVolWrite c v s
  | .intClr => intClrWrite c v s
  | .pal i => paletteWrite i v s
  | .crtcAddr => crtcAddrWrite v s
  | .crtcData => crtcDataWrite v s
  | .gfxMode => gfxModeWrite v s
  | .fdcCmd => runCommand c (fdcCommandOf v) s
  | .fdcTrack => s.setFdc (fdcTrackWrite v s.fdc)
  | .fdcSector => s.setFdc (fdcSectorWrite v s.fdc)
  | .fdcData => s.setFdc (fdcDataWrite v s.fdc)
  | .fdcCtrl => s.setFdc (fdcCtrlWrite c v s.fdc)
  | .dev d => devPortWrite c d a v s
  | .ext n =>
    let r := c.ext.write n (s.extState n) s.now a v
    s.extDone n r.1 r.2

/-- A reset handler (R199). -/
def runReset (c : Cfg) (h : Resetter) (s : State) : State :=
  match h with
  | .mapper => mapperReset c s
  | .fdc => s.setFdc (fdcReset s.now s.fdc)
  | .dev d => devReset c d s
  | .ext n =>
    let r := c.ext.reset n (s.extState n) s.now
    s.extDone n r.1 r.2

/-- A chain of readers, in registration order, passing the in/out byte along (R190, R204). -/
def readChain (c : Cfg) (a : Word) : List (Entry Reader) → Byte × State → Byte × State
  | [], x => x
  | e :: l, x => readChain c a l (runReader c e.handler a x.1 x.2)

/-- A chain of writers, in registration order (R191, R204). -/
def writeChain (c : Cfg) (a : Word) (v : Byte) : List (Entry Writer) → State → State
  | [], s => s
  | e :: l, s => writeChain c a v l (runWriter c e.handler a v s)

/-- A chain of reset handlers (R192). -/
def resetChain (c : Cfg) : List (Entry Resetter) → State → State
  | [], s => s
  | e :: l, s => resetChain c l (runReset c e.handler s)

/-- PORTRD (R190): the slot's chain as it stands now (R200), from the idle byte. -/
def portRead (c : Cfg) (a : Word) (s : State) : Byte × State :=
  readChain c a (s.slots.at (portSlot a)).readers (c.portIdle, s)

/-- PORTWR (R191). -/
def portWrite (c : Cfg) (a : Word) (v : Byte) (s : State) : State :=
  writeChain c a v (s.slots.at (portSlot a)).writers s

/-- BUSRESET (R192): every slot's reset handlers, slots ascending, as the lists stand now (R200). -/
def busReset (c : Cfg) (s : State) : State :=
  resetChain c (s.slots.toList.flatMap PortSlot.resets) s

end Sys2Proof.Machine
end

