-- ==== Sys2Proof/Machine/Backplane.lean ====
section
/-! DEFINITION. The backplane (46_backplane.md): INSTALL, REMOVE, PERIODIC, the card-ID port, and the machine RESET
(70_reset_and_hazards.md R490). -/

namespace Sys2Proof.Machine

/-! ### INSTALL (R402) -/

/-- The peripheral is already in some slot or the socket. -/
def State.installed (s : State) (p : Periph) : Bool :=
  s.card.toList.any (fun q => decide (q = some p)) || decide (s.cart = some p)

/-- A peripheral that is not installed yet starts in its own power-on state (R402, log 25). -/
def freshPeriph (c : Cfg) (p : Periph) (s : State) : State :=
  if s.installed p then s
  else
    match p with
    | .fdc => (s.setFdc (Fdc.fresh c s.now s.draws s.fdc)).setDraws (s.draws + freshDraws)
    | .dev .xsnd6 => s.setXsnd6 (Chip.powerOn c .xsnd6 s.now)
    | .dev .xsnd4 => s.setXsnd4 (Chip.powerOn c .xsnd4 s.now)
    | .dev (.other n) => s.setOthers (s.others.put n (c.dev.powerOn (.other n)))

/-- Install into a backplane slot: an occupied slot is refused (R402). -/
def installCard (c : Cfg) (k : Fin 4) (p : Periph) (s : State) : State :=
  match s.card.get k with
  | some _ => s.refuse
  | none =>
    let s1 := freshPeriph c p s
    (s1.setCard (s1.card.set k.val (some p) k.isLt)).setSlots (s1.slots.install c k (some p))

/-- Install into the cartridge socket, which registers no port handler (R402). -/
def installCart (c : Cfg) (p : Periph) (s : State) : State :=
  match s.cart with
  | some _ => s.refuse
  | none => (freshPeriph c p s).setCart (some p)

/-- INSTALL with a configuration (R402). -/
def installOp (c : Cfg) (k : Socket) (p : Periph) (s : State) : State :=
  match k with
  | .slot k => installCard c k p s
  | .cart => installCart c p s

/-! ### REMOVE (R404) -/

/-- A peripheral's state is dropped with it, unless it is still installed elsewhere (R404): what stands in its place is
its power-on state (log 25). -/
def dropPeriph (c : Cfg) (p : Periph) (s : State) : State :=
  if s.installed p then s
  else
    match p with
    | .fdc => s.setFdc (Fdc.dropped c s.now s.fdc)
    | .dev .xsnd6 => s.setXsnd6 (Chip.powerOn c .xsnd6 s.now)
    | .dev .xsnd4 => s.setXsnd4 (Chip.powerOn c .xsnd4 s.now)
    | .dev (.other n) => s.setOthers (s.others.drop n)

/-- The handler lists after the Remove of a peripheral, whose calls on the bus are made in the name of `o` (R404). -/
def State.afterRemove (c : Cfg) (k : Socket) (p : Periph) (o : Owner) (s : State) : Slots :=
  s.slots.applyAll o (removeRegs c (s.core c) s.now k p)

/-- Remove from a backplane slot: an empty slot stays as it is; a Remove that does not undo its Install is refused;
otherwise the slot is empty and the lists are as if the card had never been installed (R404, log 16). -/
def removeCard (c : Cfg) (k : Fin 4) (s : State) : State :=
  match s.card.get k with
  | none => s
  | some p =>
    if (s.afterRemove c (.slot k) p (.slot k)).sameHandlers (s.slots.without (.slot k)) then
      dropPeriph c p ((s.setCard (s.card.set k.val none k.isLt)).setSlots (s.slots.without (.slot k)))
    else s.refuse

/-- Remove from the cartridge socket (R404). A cartridge registered nothing, so a Remove that changes any handler list is
refused. -/
def removeCart (c : Cfg) (s : State) : State :=
  match s.cart with
  | none => s
  | some p =>
    if (s.afterRemove c .cart p .host).sameHandlers s.slots then dropPeriph c p (s.setCart none) else s.refuse

/-- REMOVE with a configuration (R404). -/
def removeOp (c : Cfg) (k : Socket) (s : State) : State :=
  match k with
  | .slot k => removeCard c k s
  | .cart => removeCart c s

/-! ### PERIODIC (R410) -/

/-- A peripheral's PeriodicCallback(t). -/
def periphPeriodic (c : Cfg) (t : Tick) (p : Option Periph) (s : State) : State :=
  match p with
  | some .fdc => s.fdcCallback c t
  | some (.dev d) => devPeriodic c d t s
  | none => s

/-- The callbacks of the four slots, in order, and of the cartridge. -/
def periodicAll (c : Cfg) (t : Tick) (s : State) : State :=
  let s0 := periphPeriodic c t (s.card.get 0) s
  let s1 := periphPeriodic c t (s0.card.get 1) s0
  let s2 := periphPeriodic c t (s1.card.get 2) s1
  let s3 := periphPeriodic c t (s2.card.get 3) s2
  periphPeriodic c t s3.cart s3

/-- The precondition of PERIODIC: `t = now` and t not before the previous PERIODIC's (R410). -/
def State.periodicInOrder (t : Tick) (s : State) : Bool :=
  decide (t = s.now) && decide (s.lastPeriodic.toNat ≤ t.toNat)

/-- PERIODIC with a configuration (R410): the sound catch-up, then the peripherals. -/
def periodicOp (c : Cfg) (t : Tick) (s : State) : State :=
  if s.periodicInOrder t then periodicAll c t ((s.soundCatchUp c t).setLastPeriodic t) else s.refuse

/-! ### RESET (70_reset_and_hazards.md R490) -/

/-- The cartridge's Reset, if there is one (R411). -/
def cartReset (c : Cfg) (s : State) : State :=
  match s.cart with
  | some (.dev d) => devReset c d s
  | some .fdc => s.setFdc (fdcReset s.now s.fdc)
  | none => s

/-- RESET with a configuration: BUSRESET, then the cartridge's Reset (R490). -/
def machineReset (c : Cfg) (s : State) : State := cartReset c (busReset c s)

/-! ### Meanings -/

/-- INSTALL (R402). -/
def execInstall (k : Socket) (p : Periph) (s : State) : Host.Outcome State Fault Refusal :=
  done (installOp Config.cfg k p s)

/-- REMOVE (R404). -/
def execRemove (k : Socket) (s : State) : Host.Outcome State Fault Refusal := done (removeOp Config.cfg k s)

/-- PERIODIC (R410). -/
def execPeriodic (t : Tick) (s : State) : Host.Outcome State Fault Refusal := done (periodicOp Config.cfg t s)

/-- IN_CARDID (R408). -/
def execInCardid (s : State) : Host.Outcome State Fault Refusal := answer (.byte (cardIdByte Config.cfg s)) s

/-- RESET (R490). -/
def execReset (s : State) : Host.Outcome State Fault Refusal := done (machineReset Config.cfg s)

end Sys2Proof.Machine
end

