-- ==== Sys2Proof/Machine/MemoryBus.lean ====
section
/-! DEFINITION. Memory transactions (40_memory_bus.md): MEMRD, MEMWR and the debug side channel DBGRD, DBGWR. -/

namespace Sys2Proof.Machine

/-- MEMRD with a configuration (R170): the page's reader at the offset. -/
def memRead (c : Cfg) (a : Word) (s : State) : Byte × State := tagRead c (s.tagOf a) (offsetOf a) s

/-- MEMWR with a configuration (R171): the page's writer at the offset. -/
def memWrite (c : Cfg) (a : Word) (v : Byte) (s : State) : State := tagWrite c (s.tagOf a) (offsetOf a) v s

/-! ### The debug side channel (R172 to R174) -/

/-- A debug descriptor (R174). The shown address and page are the debugger's and no rule reads them. -/
structure DebugDesc where
  store : DbgStore
  addressOffset : Word
  memorySize : Nat
  pageCount : Nat
  pageIndex : Nat
  deriving DecidableEq, Repr

/-- The bytes of a store: a ROM's image, four user RAM pages, the video banks, or a 16 KiB window (R174, log 26). -/
def storeSize (c : Cfg) (s : State) : DbgStore → Nat
  | .sys => s.sysRom.length
  | .extRom => s.extRom.length
  | .userRam => 0x10000
  | .videoRam => 0x4000 * c.vidBanks
  | .cart | .card _ => 0x4000

/-- The descriptor of a store (R174): pages of 16 KiB, at least one (log 26). -/
def debugDesc (c : Cfg) (s : State) (d : DbgStore) : DebugDesc :=
  { store := d, addressOffset := c.mem.dbgAddress d, memorySize := storeSize c s d
    pageCount := max 1 ((storeSize c s d + 0x3FFF) / 0x4000), pageIndex := c.mem.dbgPageIndex d }

/-- The index of a page and an offset in a store (R172), by the same formula for a page the store does not have (DESIGN
CHOICE, log 26). -/
def debugIndex (d : DebugDesc) (pg o : Nat) : Nat := pg * (d.memorySize / d.pageCount) + o

/-- The debug view of what is installed in a window, if it registered one, else 0xFF (R172). The FDC registers
none (DESIGN CHOICE, log 26). -/
def debugWindow (c : Cfg) (s : State) (p : Option Periph) (i : Nat) : Byte :=
  match p with
  | some (.dev d) => (c.dev.debugRead d (s.core c d) i).getD 0xFF#8
  | _ => 0xFF#8

/-- Byte i of a store. -/
def storeByte (c : Cfg) (s : State) (d : DbgStore) (i : Nat) : Byte :=
  match d with
  | .sys => romByte s.sysRom i
  | .extRom => romByte s.extRom i
  | .userRam => s.mem.read i
  | .videoRam => s.mem.read (0x10000 + i)
  | .cart => debugWindow c s s.cart i
  | .card k => debugWindow c s (s.card.get k) i

/-- DBGRD with a configuration (R172): out of range reads 0xFF. -/
def debugRead (c : Cfg) (d : DbgStore) (pg o : Nat) (s : State) : Byte :=
  let i := debugIndex (debugDesc c s d) pg o
  if i < storeSize c s d then storeByte c s d i else 0xFF#8

/-- DBGWR with a configuration (R173): only RAM and video RAM take it. -/
def debugWrite (c : Cfg) (d : DbgStore) (pg o : Nat) (v : Byte) (s : State) : State :=
  let i := debugIndex (debugDesc c s d) pg o
  if i < storeSize c s d then
    match d with
    | .userRam => s.setMem (s.mem.write i v)
    | .videoRam => s.setMem (s.mem.write (0x10000 + i) v)
    | .sys | .extRom | .cart | .card _ => s
  else s

/-! ### Meanings -/

/-- MEMRD (R170). -/
def execMemrd (a : Word) (s : State) : Host.Outcome State Fault Refusal := answerByte (memRead Config.cfg a s)

/-- MEMWR (R171). -/
def execMemwr (a : Word) (v : Byte) (s : State) : Host.Outcome State Fault Refusal := done (memWrite Config.cfg a v s)

/-- DBGRD (R172). -/
def execDbgrd (d : DbgStore) (pg o : Nat) (s : State) : Host.Outcome State Fault Refusal :=
  answer (.byte (debugRead Config.cfg d pg o s)) s

/-- DBGWR (R173). -/
def execDbgwr (d : DbgStore) (pg o : Nat) (v : Byte) (s : State) : Host.Outcome State Fault Refusal :=
  done (debugWrite Config.cfg d pg o v s)

end Sys2Proof.Machine
end

