-- ==== Sys2Proof/Machine/PortBus.lean ====
section
/-! DEFINITION. Port transactions, BUSRESET and the registry operations (41_portbus.md), and the card windows
(46_backplane.md R406). -/

namespace Sys2Proof.Machine

/-- A registration in the host's name (R193 to R198). -/
def register (r : RegOp) (s : State) : State := s.setSlots (s.slots.apply .host r)

/-- PORTRD (R190). -/
def execPortrd (a : Word) (s : State) : Host.Outcome State Fault Refusal := answerByte (portRead Config.cfg a s)

/-- PORTWR (R191). -/
def execPortwr (a : Word) (v : Byte) (s : State) : Host.Outcome State Fault Refusal := done (portWrite Config.cfg a v s)

/-- BUSRESET (R192). -/
def execBusreset (s : State) : Host.Outcome State Fault Refusal := done (busReset Config.cfg s)

/-- ADDREADER (R193). -/
def execAddreader (p : Byte) (h : Reader) (s : State) : Host.Outcome State Fault Refusal :=
  done (register (.addReader p h) s)

/-- ADDWRITER (R194). -/
def execAddwriter (p : Byte) (h : Writer) (s : State) : Host.Outcome State Fault Refusal :=
  done (register (.addWriter p h) s)

/-- ADDRESET (R195). -/
def execAddreset (p : Byte) (h : Resetter) (s : State) : Host.Outcome State Fault Refusal :=
  done (register (.addReset p h) s)

/-- REMOVEREADER (R196). -/
def execRemovereader (p : Byte) (h : Reader) (s : State) : Host.Outcome State Fault Refusal :=
  done (register (.removeReader p h) s)

/-- REMOVEWRITER (R197). -/
def execRemovewriter (p : Byte) (h : Writer) (s : State) : Host.Outcome State Fault Refusal :=
  done (register (.removeWriter p h) s)

/-- REMOVERESET (R198). -/
def execRemovereset (p : Byte) (h : Resetter) (s : State) : Host.Outcome State Fault Refusal :=
  done (register (.removeReset p h) s)

/-- IN_CARDWIN (R406): a port read of a card window, dispatched like any other. -/
def execInCardwin (w : Fin 4) (k : Fin 16) (hi : Byte) (s : State) : Host.Outcome State Fault Refusal :=
  answerByte (portRead Config.cfg (portAddr hi (cardSlot w k)) s)

/-- OUT_CARDWIN (R406): a port write to a card window, dispatched like any other. -/
def execOutCardwin (w : Fin 4) (k : Fin 16) (hi v : Byte) (s : State) : Host.Outcome State Fault Refusal :=
  done (portWrite Config.cfg (portAddr hi (cardSlot w k)) v s)

end Sys2Proof.Machine
end

