-- ==== Sys2Proof/Machine/Timing.lean ====
section
/-! DEFINITION. The timing facade (47_timing.md): conversions and the tick counter. None changes the block's state. -/

namespace Sys2Proof.Machine

/-- MSTOTICKS (R430). -/
def execMstoticks (ms : Nat) (s : State) : Host.Outcome State Fault Refusal :=
  answer (.number (msToTicks Config.cfg ms)) s

/-- USTOTICKS (R431). -/
def execUstoticks (us : Nat) (s : State) : Host.Outcome State Fault Refusal :=
  answer (.number (usToTicks Config.cfg us)) s

/-- TICKSTOMS (R433). Its count of ticks is a number of any size (30_encoding.md R120). -/
def execTickstoms (t : Nat) (s : State) : Host.Outcome State Fault Refusal :=
  answer (.number (ticksToMs Config.cfg t)) s

/-- GETTICKS (R432). -/
def execGetticks (s : State) : Host.Outcome State Fault Refusal := answer (.tick s.now) s

/-- TICKSSINCE (R434). -/
def execTickssince (start : Tick) (s : State) : Host.Outcome State Fault Refusal :=
  answer (.tick (ticksSince s.now start)) s

end Sys2Proof.Machine
end

