-- ==== Sys2Proof/Machine/Dispatch.lean ====
section
/-! DEFINITION. The dispatch: one arm per constructor of `Instr`, each one call of that row's meaning. -/

namespace Sys2Proof.Machine

def exec (i : Instr) (s : State) : Host.Outcome State Fault Refusal :=
  match i with
  | .memrd a => Sys2Proof.Machine.execMemrd a s
  | .memwr a v => Sys2Proof.Machine.execMemwr a v s
  | .dbgrd d pg o => Sys2Proof.Machine.execDbgrd d pg o s
  | .dbgwr d pg o v => Sys2Proof.Machine.execDbgwr d pg o v s
  | .portrd a => Sys2Proof.Machine.execPortrd a s
  | .portwr a v => Sys2Proof.Machine.execPortwr a v s
  | .busreset => Sys2Proof.Machine.execBusreset s
  | .addreader p h => Sys2Proof.Machine.execAddreader p h s
  | .addwriter p h => Sys2Proof.Machine.execAddwriter p h s
  | .addreset p h => Sys2Proof.Machine.execAddreset p h s
  | .removereader p h => Sys2Proof.Machine.execRemovereader p h s
  | .removewriter p h => Sys2Proof.Machine.execRemovewriter p h s
  | .removereset p h => Sys2Proof.Machine.execRemovereset p h s
  | .renderline => Sys2Proof.Machine.execRenderline s
  | .render g buf b e => Sys2Proof.Machine.execRender g buf b e s
  | .periodic t => Sys2Proof.Machine.execPeriodic t s
  | .install k p => Sys2Proof.Machine.execInstall k p s
  | .remove k => Sys2Proof.Machine.execRemove k s
  | .mstoticks ms => Sys2Proof.Machine.execMstoticks ms s
  | .ustoticks us => Sys2Proof.Machine.execUstoticks us s
  | .tickstoms t => Sys2Proof.Machine.execTickstoms t s
  | .getticks => Sys2Proof.Machine.execGetticks s
  | .tickssince start => Sys2Proof.Machine.execTickssince start s
  | .reset => Sys2Proof.Machine.execReset s
  | .outBorder v => Sys2Proof.Machine.execOutBorder v s
  | .outPaging v => Sys2Proof.Machine.execOutPaging v s
  | .outExtsel v => Sys2Proof.Machine.execOutExtsel v s
  | .outPage3 v => Sys2Proof.Machine.execOutPage3 v s
  | .outSndfreql v => Sys2Proof.Machine.execOutSndfreql v s
  | .outSndfreqh v => Sys2Proof.Machine.execOutSndfreqh v s
  | .outSndvol v => Sys2Proof.Machine.execOutSndvol v s
  | .outIntclr v => Sys2Proof.Machine.execOutIntclr v s
  | .inKbd => Sys2Proof.Machine.execInKbd s
  | .inIntstat => Sys2Proof.Machine.execInIntstat s
  | .inCardid => Sys2Proof.Machine.execInCardid s
  | .inAckstat => Sys2Proof.Machine.execInAckstat s
  | .outPal0 v => Sys2Proof.Machine.execOutPal0 v s
  | .outPal1 v => Sys2Proof.Machine.execOutPal1 v s
  | .outPal2 v => Sys2Proof.Machine.execOutPal2 v s
  | .outPal3 v => Sys2Proof.Machine.execOutPal3 v s
  | .outCrtcaddr v => Sys2Proof.Machine.execOutCrtcaddr v s
  | .outCrtcdata v => Sys2Proof.Machine.execOutCrtcdata v s
  | .inCrtcdata => Sys2Proof.Machine.execInCrtcdata s
  | .outGfxmode v => Sys2Proof.Machine.execOutGfxmode v s
  | .inCardwin w k hi => Sys2Proof.Machine.execInCardwin w k hi s
  | .outCardwin w k hi v => Sys2Proof.Machine.execOutCardwin w k hi v s
  | .fdcCmdW v => Sys2Proof.Machine.execFdcCmdW v s
  | .fdcStatusR => Sys2Proof.Machine.execFdcStatusR s
  | .fdcTrackW v => Sys2Proof.Machine.execFdcTrackW v s
  | .fdcTrackR => Sys2Proof.Machine.execFdcTrackR s
  | .fdcSectorW v => Sys2Proof.Machine.execFdcSectorW v s
  | .fdcSectorR => Sys2Proof.Machine.execFdcSectorR s
  | .fdcDataW v => Sys2Proof.Machine.execFdcDataW v s
  | .fdcDataR => Sys2Proof.Machine.execFdcDataR s
  | .fdcCtrlW v => Sys2Proof.Machine.execFdcCtrlW v s
  | .fdcRestore h v r => Sys2Proof.Machine.execFdcRestore h v r s
  | .fdcSeek h v r => Sys2Proof.Machine.execFdcSeek h v r s
  | .fdcStep u h v r => Sys2Proof.Machine.execFdcStep u h v r s
  | .fdcStepin u h v r => Sys2Proof.Machine.execFdcStepin u h v r s
  | .fdcStepout u h v r => Sys2Proof.Machine.execFdcStepout u h v r s
  | .fdcReadsec m sv e c x0 => Sys2Proof.Machine.execFdcReadsec m sv e c x0 s
  | .fdcWritesec m sv e c a0 => Sys2Proof.Machine.execFdcWritesec m sv e c a0 s
  | .fdcReadaddr x3 e x1 x0 => Sys2Proof.Machine.execFdcReadaddr x3 e x1 x0 s
  | .fdcForceint i0 => Sys2Proof.Machine.execFdcForceint i0 s
  | .fdcReadtrk x3 e x1 x0 => Sys2Proof.Machine.execFdcReadtrk x3 e x1 x0 s
  | .fdcWritetrk x3 e x1 x0 => Sys2Proof.Machine.execFdcWritetrk x3 e x1 x0 s

end Sys2Proof.Machine
end

