-- ==== Sys2Proof/Machine/Fetch.lean ====
section
/-! DEFINITION. How the next operation is taken from the host (10_state.md R31, 70_reset_and_hazards.md R515, log 3). -/

namespace Sys2Proof.Machine

/-- The host's duty on time: a call's tick counter is not before the last one (R515, 47_timing.md R435). -/
def Call.inTime (k : Call) (s : State) : Bool := decide (s.now.toNat ≤ k.now.toNat)

/-- The inputs of a call take effect: the tick counter and the keyboard matrix (R69, R70). -/
def Call.inputs (k : Call) (s : State) : State := (s.setNow k.now).setKbd k.kbd

/-- The operation of a call: its bytes decoded. -/
def Call.operation (k : Call) : Except Refusal Instr :=
  match decode k.bytes with
  | .ok i => .ok i
  | .error e => .error (.undecodable e)

/-- A call handed over before the ones still pending, at the present time and keyboard matrix. -/
def State.handOver (s : State) (bytes : List Byte) : State :=
  s.setCalls (⟨s.now, s.kbd, bytes⟩ :: s.calls)

end Sys2Proof.Machine
end

