-- ==== Sys2Proof/Machine/Step.lean ====
section
/-! DEFINITION. One step: the next call the host handed over is taken, its inputs take effect and its operation runs. -/

namespace Sys2Proof.Machine

/-- One step of the block. With no call left the run has ended (70_reset_and_hazards.md R516); a call whose tick counter
runs backwards breaks a duty of the host and is refused in the spec's sense (R515, log 28). -/
def step (s : State) : Host.Outcome State Fault Refusal :=
  match s.calls with
  | [] => .fault .endOfTrace
  | k :: rest =>
    if k.inTime s then
      match k.operation with
      | .ok i => exec i (k.inputs (s.setCalls rest))
      | .error r => .refused r
    else done (s.setCalls rest).refuse

/-- The table word's instruction handed over as the next call (log 2, log 3). -/
def State.withFetchWord (s : State) (nbits w : Nat) : State := s.handOver (tableWordBytes nbits w)

end Sys2Proof.Machine
end

