-- ==== Sys2Proof/Safety.lean ====
section
/-! DEFINITION. The predicates claims are stated with: the invariants of 10_state.md R76, and a run that no refusal has
marked (R78). -/

namespace Sys2Proof.Machine

/-- The stores are in their canonical form. -/
abbrev State.MemoryOk (s : State) : Prop := s.mem.wf = true

/-- R76 (a): the page table is the decode of the latches; the tape motor is its bit of port03 (R72); and a third paging
latch that does not exist is 0x00 (R39). -/
def State.PagingOk (c : Cfg) (s : State) : Prop :=
  s.paging = rebind c s.paging.port02 s.paging.port03 s.paging.pagePort3 ∧
    (c.pagePort3 = none → s.paging.pagePort3 = 0#8)

/-- R76 (c): a drive's head is on a track of its geometry. -/
def Drive.OnDisk (d : Drive) : Prop := d.phys ≤ d.geom.tracks - 1

/-- R76 (c) for every installed drive. -/
def Fdc.HeadsOk (f : Fdc) : Prop := ∀ (k : Fin 4) (d : Drive), f.drive.get k = some d → d.OnDisk

/-- The FDC flags that stay false: `wpErr` is never set (R59) and `P_LOST_DATA` is false (92 D36). -/
def Fdc.FlagsOk (f : Fdc) : Prop := f.wpErr = false ∧ f.lostData = false

/-- R50: the line index is a line of the frame. -/
def State.LineOk (c : Cfg) (s : State) : Prop := s.video.line < c.linesPerFrame

/-- R52: the postscalers are below their period. -/
def Sound.PostOk (c : Cfg) (x : Sound) : Prop := ∀ i : Fin 2, (x.ch.get i).post < c.postLen

/-- Recorded levels stand at ticks that do not fall, none after tick t (44_sound.md R299, R303). -/
def InOrder {α : Type} (l : List (Tick × α)) (t : Tick) : Prop :=
  l.Pairwise (fun a b => a.1.toNat ≤ b.1.toNat) ∧ ∀ e ∈ l, e.1.toNat ≤ t.toNat

/-- Every generator's recorded levels are in order, up to its catch-up tick. -/
def State.EventsOk (s : State) : Prop :=
  InOrder s.sound.sndEvents s.sound.sndTick ∧ InOrder s.xsnd6.events s.xsnd6.tick ∧ InOrder s.xsnd4.events s.xsnd4.tick

/-- No generator is caught up to a tick that has not come. -/
def State.TicksOk (s : State) : Prop :=
  s.sound.sndTick.toNat ≤ s.now.toNat ∧ s.xsnd6.tick.toNat ≤ s.now.toNat ∧ s.xsnd4.tick.toNat ≤ s.now.toNat

/-- A registration stands rightfully in the name of its owner (R76 (e)): the base machine registers it, or the
peripheral that slot k holds does. What the host registers through the bus itself is its own (41_portbus.md R193, log 16). -/
def State.Rightful (c : Cfg) (s : State) (r : RegOp) : Owner → Prop
  | .base => r ∈ baseRegs c
  | .slot k => ∃ p : Periph, s.card.get k = some p ∧ r ∈ installRegs c k p
  | .host => True

/-- R76 (e): every handler in a slot stands there rightfully. -/
def State.OwnersOk (c : Cfg) (s : State) : Prop :=
  ∀ n : Byte,
    (∀ e ∈ (s.slots.at n).readers, s.Rightful c (.addReader n e.handler) e.owner) ∧
    (∀ e ∈ (s.slots.at n).writers, s.Rightful c (.addWriter n e.handler) e.owner) ∧
    (∀ e ∈ (s.slots.at n).resets, s.Rightful c (.addReset n e.handler) e.owner)

/-- The invariant of the block (R76, with R39, R50, R52, R54, R55, R59 and R72). -/
structure State.Inv (c : Cfg) (s : State) : Prop where
  memory : s.MemoryOk
  paging : s.PagingOk c
  owners : s.OwnersOk c
  heads : s.fdc.HeadsOk
  flags : s.fdc.FlagsOk
  line : s.LineOk c
  post : s.sound.PostOk c
  events : s.EventsOk
  ticks : s.TicksOk

/-- No refusal has marked the run (R78): the premise of every claim of the spec. -/
abbrev State.Unmarked (s : State) : Prop := s.refused = false

/-! ### What claims speak about -/

/-- The peripheral window a tag shows at an offset, if it shows one, with the peripheral that answers there: what is in
the cartridge socket, or the card of a slot or of the card part of `EXT` if it has a memory window (20_memory.md R84,
R90, R95). -/
def State.window (c : Cfg) (s : State) (t : Tag) (o : BitVec 14) : Option (Option Periph) :=
  match t with
  | .cart => some s.cart
  | .card k => some ((s.card.get k).filter (hasMem c))
  | .ext =>
    if o.toNat < c.mem.extSplit then some ((s.card.get (c.mem.extSel s.paging.port03)).filter (hasMem c)) else none
  | .sys | .u _ | .vid _ => none

/-- From s to t only the state of device d changed (46_backplane.md R401). -/
def State.OnlyDevice (s : State) (d : Dev) (t : State) : Prop :=
  t = { s with xsnd6 := t.xsnd6, xsnd4 := t.xsnd4, others := t.others } ∧
    (d ≠ .xsnd6 → t.xsnd6 = s.xsnd6) ∧ (d ≠ .xsnd4 → t.xsnd4 = s.xsnd4) ∧
    (∀ n : Nat, d ≠ .other n → t.others.find n = s.others.find n)

/-- From s to t no peripheral's state changed but p's (46_backplane.md R401). -/
def State.KeepsPeripherals (s : State) (p : Periph) (t : State) : Prop :=
  (p ≠ .fdc → t.fdc = s.fdc) ∧ (p ≠ .dev .xsnd6 → t.xsnd6 = s.xsnd6) ∧ (p ≠ .dev .xsnd4 → t.xsnd4 = s.xsnd4) ∧
    (∀ n : Nat, p ≠ .dev (.other n) → t.others.find n = s.others.find n)

/-- From s to t the peripheral p started in its own power-on state, as far as the spec gives it, unless it was installed
already: then no state of a peripheral changed (46_backplane.md R402, log 25). -/
def State.Started (c : Cfg) (s : State) (p : Periph) (t : State) : Prop :=
  (s.installed p = true →
    t.fdc = s.fdc ∧ t.xsnd6 = s.xsnd6 ∧ t.xsnd4 = s.xsnd4 ∧ t.others = s.others ∧ t.draws = s.draws) ∧
  (s.installed p = false →
    match p with
    | .fdc =>
      t.fdc.fop = .none ∧ t.fdc.fmode = .typeI ∧ t.fdc.drq = false ∧ t.fdc.intrq = false ∧ t.fdc.rnf = false ∧
        t.fdc.lostData = false ∧ t.fdc.headLoad = false ∧ t.fdc.wpErr = false ∧ t.fdc.flast = s.now
    | .dev .xsnd6 => t.xsnd6 = Chip.powerOn c .xsnd6 s.now
    | .dev .xsnd4 => t.xsnd4 = Chip.powerOn c .xsnd4 s.now
    | .dev (.other n) => t.others.find n = some (c.dev.powerOn (.other n)))

/-- From s to t the state of peripheral p was dropped (46_backplane.md R404): a numbered one has none, and the FDC and
the chips are in their power-on states, the host's images still in the drives (log 25). -/
def State.Dropped (c : Cfg) (s : State) (p : Periph) (t : State) : Prop :=
  match p with
  | .fdc =>
    t.fdc = { Fdc.powerOn c s.now with drive := t.fdc.drive } ∧
      ∀ j : Fin 4, (t.fdc.drive.get j).map Drive.image = (s.fdc.drive.get j).map Drive.image
  | .dev .xsnd6 => t.xsnd6 = Chip.powerOn c .xsnd6 s.now
  | .dev .xsnd4 => t.xsnd4 = Chip.powerOn c .xsnd4 s.now
  | .dev (.other n) => t.others.find n = none

/-- A call on the bus that deregisters a handler (41_portbus.md R196 to R198). -/
def deregisters : RegOp → Bool
  | .removeReader _ _ | .removeWriter _ _ | .removeReset _ _ => true
  | .addReader _ _ | .addWriter _ _ | .addReset _ _ => false

/-- The handler a registration names stands in its list. -/
def Slots.stands (t : Slots) : RegOp → Prop
  | .addReader p h => ∃ e ∈ (t.at p).readers, e.handler = h
  | .addWriter p h => ∃ e ∈ (t.at p).writers, e.handler = h
  | .addReset p h => ∃ e ∈ (t.at p).resets, e.handler = h
  | .removeReader _ _ | .removeWriter _ _ | .removeReset _ _ => False

/-- From s to t only the state of the host's handler n changed, and the handler lists (41_portbus.md R200). -/
def State.OnlyExt (s : State) (n : Nat) (t : State) : Prop :=
  t = { s with slots := t.slots, exts := t.exts } ∧ ∀ m : Nat, m ≠ n → t.exts.find m = s.exts.find m

/-- The RAM or video RAM cell a tag shows at an offset, if it shows one (R84). -/
def tagCell (t : Tag) (o : BitVec 14) : Option Nat :=
  match t with
  | .u k => some (userCell k o)
  | .vid b => some (videoCell b o)
  | .sys | .ext | .cart | .card _ => none

/-- A reader stands in the slot of a port address. -/
def State.reads (s : State) (a : Word) (h : Reader) : Prop := ∃ e ∈ (s.slots.at (a.extractLsb' 0 8)).readers, e.handler = h

/-- A writer stands in the slot of a port address. -/
def State.writes (s : State) (a : Word) (h : Writer) : Prop := ∃ e ∈ (s.slots.at (a.extractLsb' 0 8)).writers, e.handler = h

/-- The address of a port read: of PORTRD, and of the card-window row (46_backplane.md R406). -/
def readAddr : Instr → Option Word
  | .portrd a => some a
  | .inCardwin w k hi => some (hi ++ cardSlot w k)
  | _ => none

/-- The address and the byte of a port write: of PORTWR, and of the card-window row. -/
def writeAddr : Instr → Option (Word × Byte)
  | .portwr a v => some (a, v)
  | .outCardwin w k hi v => some (hi ++ cardSlot w k, v)
  | _ => none

/-- The operations that can set the interrupt flip-flop: RENDERLINE, the built-in generator's catch-up points, and port
transactions that reach a handler which catches up (60_exceptions.md R456, 44_sound.md R301). -/
def maySetInt (s : State) (i : Instr) : Prop :=
  (match i with
   | .renderline | .render .builtin _ _ _ | .periodic _ | .inIntstat | .outSndfreql _ | .outSndfreqh _ | .outSndvol _ => True
   | _ => False) ∨
  (∃ a, readAddr i = some a ∧ s.reads a .intStat) ∨
  (∃ a v, writeAddr i = some (a, v) ∧
    (s.writes a .sndFreqL ∨ s.writes a .sndFreqH ∨ s.writes a .sndVol))

/-- The operations that can clear the flip-flop: the interrupt-clear row, and port writes that reach its handler (R458). -/
def mayClearInt (s : State) (i : Instr) : Prop :=
  (∃ v, i = .outIntclr v) ∨ ∃ a v, writeAddr i = some (a, v) ∧ s.writes a .intClr

/-- The operations that can change a page binding: the paging-control rows, port writes that reach their handlers, and
the resets while the mapper's reset handler is registered (20_memory.md R88, 42_system_ports.md R220). -/
def mayRebind (s : State) (i : Instr) : Prop :=
  (match i with
   | .outPaging _ | .outExtsel _ | .outPage3 _ => True
   | .busreset | .reset => ∃ n : Byte, ∃ e ∈ (s.slots.at n).resets, e.handler = .mapper
   | _ => False) ∨
  ∃ a v, writeAddr i = some (a, v) ∧ (s.writes a .paging ∨ s.writes a .extSel ∨ s.writes a .page3)

/-- The FDC commands the spec refuses (45_fdc.md R355, R372). -/
def refusedCommand : FdcCommand → Bool
  | .readsec m _ _ _ _ => m
  | .writesec _ _ _ _ _ | .readtrk _ _ _ _ => true
  | _ => false

/-- The operations the spec refuses in some state, and the port writes that reach the FDC's command register with a
command it refuses (60_exceptions.md R452). -/
def mayRefuse (s : State) (i : Instr) : Prop :=
  (match i with
   | .install _ _ | .remove _ | .periodic _ | .render _ _ _ _ | .fdcWritesec _ _ _ _ _ | .fdcReadtrk _ _ _ _ => True
   | .fdcReadsec m _ _ _ _ => m = true
   | .fdcCmdW v => refusedCommand (fdcCommandOf v) = true
   | _ => False) ∨
  ∃ a v, writeAddr i = some (a, v) ∧ s.writes a .fdcCmd ∧ refusedCommand (fdcCommandOf v) = true

/-- The row of a writer the block registers (30_encoding.md R130, R145). The third paging port's row is left to a
statement of its own. -/
def writerRow (v : Byte) : Writer → Option Instr
  | .border => some (.outBorder v)
  | .paging => some (.outPaging v)
  | .extSel => some (.outExtsel v)
  | .sndFreqL => some (.outSndfreql v)
  | .sndFreqH => some (.outSndfreqh v)
  | .sndVol => some (.outSndvol v)
  | .intClr => some (.outIntclr v)
  | .pal 0 => some (.outPal0 v)
  | .pal 1 => some (.outPal1 v)
  | .pal 2 => some (.outPal2 v)
  | .pal 3 => some (.outPal3 v)
  | .crtcAddr => some (.outCrtcaddr v)
  | .crtcData => some (.outCrtcdata v)
  | .gfxMode => some (.outGfxmode v)
  | .fdcCmd => some (.fdcCmdW v)
  | .fdcTrack => some (.fdcTrackW v)
  | .fdcSector => some (.fdcSectorW v)
  | .fdcData => some (.fdcDataW v)
  | .fdcCtrl => some (.fdcCtrlW v)
  | .page3 | .dev _ | .ext _ => none

/-- The row of a reader the block registers (R130, R145). The FDC's reader of INTRQ and DRQ (R390) has none. -/
def readerRow : Reader → Option Instr
  | .kbd => some .inKbd
  | .intStat => some .inIntstat
  | .cardId => some .inCardid
  | .ackStat => some .inAckstat
  | .crtcData => some .inCrtcdata
  | .fdcStatus => some .fdcStatusR
  | .fdcTrack => some .fdcTrackR
  | .fdcSector => some .fdcSectorR
  | .fdcData => some .fdcDataR
  | .fdcLines | .dev _ | .ext _ => none

end Sys2Proof.Machine
end

