-- ==== Sys2Proof/Certificates/Slice0/Obligations.lean ====
section
/-! DEFINITION. The statements for the provers. Each docstring names the rule of the spec it formalises. Statements about
`exec` speak of the machine's own configuration `Config.cfg`, which has no body; statements over an operation with a
configuration hold for every one, `Config.cfg` among them. -/

open Sys2Proof Sys2Proof.Machine

/-! ### Encoding and steps -/

/-- Decoding what was encoded gives the instruction back, every operand at every value (30_encoding.md R120, R155). The
bytes are the model's choice (log 1). -/
def Obligations.DecodeEncode : Prop := ∀ i : Instr, decode (encode i) = .ok i

/-- The fields of a command byte (30_encoding.md R147, R148), under the high bits that select the command (R146), and
words written out from the spec: an address of R81, slots of R130 and R161, window offsets of R145, command bytes of R146.
The bytes before them that name the operation are the model's (log 1). -/
def Obligations.DecodeWords : Prop :=
  (∀ b : Byte,
    fdcCommandOf b =
      if b.extractLsb' 4 4 = 0b0000#4 then .restore (b.getLsbD 3) (b.getLsbD 2) (b.extractLsb' 0 2)
      else if b.extractLsb' 4 4 = 0b0001#4 then .seek (b.getLsbD 3) (b.getLsbD 2) (b.extractLsb' 0 2)
      else if b.extractLsb' 5 3 = 0b001#3 then .step (b.getLsbD 4) (b.getLsbD 3) (b.getLsbD 2) (b.extractLsb' 0 2)
      else if b.extractLsb' 5 3 = 0b010#3 then .stepin (b.getLsbD 4) (b.getLsbD 3) (b.getLsbD 2) (b.extractLsb' 0 2)
      else if b.extractLsb' 5 3 = 0b011#3 then .stepout (b.getLsbD 4) (b.getLsbD 3) (b.getLsbD 2) (b.extractLsb' 0 2)
      else if b.extractLsb' 5 3 = 0b100#3 then
        .readsec (b.getLsbD 4) (b.getLsbD 3) (b.getLsbD 2) (b.getLsbD 1) (b.getLsbD 0)
      else if b.extractLsb' 5 3 = 0b101#3 then
        .writesec (b.getLsbD 4) (b.getLsbD 3) (b.getLsbD 2) (b.getLsbD 1) (b.getLsbD 0)
      else if b.extractLsb' 4 4 = 0b1100#4 then .readaddr (b.getLsbD 3) (b.getLsbD 2) (b.getLsbD 1) (b.getLsbD 0)
      else if b.extractLsb' 4 4 = 0b1101#4 then .forceint (b.extractLsb' 0 4)
      else if b.extractLsb' 4 4 = 0b1110#4 then .readtrk (b.getLsbD 3) (b.getLsbD 2) (b.getLsbD 1) (b.getLsbD 0)
      else .writetrk (b.getLsbD 3) (b.getLsbD 2) (b.getLsbD 1) (b.getLsbD 0)) ∧
  decode [0x00#8, 0x34#8, 0xC0#8] = .ok (.memrd 0xC034#16) ∧
  decode [0x20#8, 0x02#8, 0#8, 0x55#8] = .ok (.outPaging 0x55#8) ∧
  decode [0x20#8, 0x63#8, 0#8, 0x0E#8] = .ok (.outPal3 0x0E#8) ∧
  decode [0x21#8, 0x59#8, 0#8] = .ok .inIntstat ∧
  decode [0x21#8, 0x1F#8, 0xAB#8] = .ok (.inCardwin 0 15 0xAB#8) ∧
  decode [0x20#8, 0x40#8, 0#8, 0x01#8] = .ok (.outCardwin 3 0 0#8 0x01#8) ∧
  decode [0x24#8, 3#8, 0x05#8] = .ok (.fdcDataW 0x05#8) ∧
  decode [0x27#8, 0b00011011#8] = .ok (.fdcSeek true false 3#2) ∧
  decode [0x27#8, 0b01110110#8] = .ok (.fdcStepout true false true 2#2) ∧
  decode [0x27#8, 0b10010000#8] = .ok (.fdcReadsec true false false false false) ∧
  decode [0x27#8, 0b11011000#8] = .ok (.fdcForceint 8#4)

/-- A step runs the operation its call decodes to, at the call's tick and keyboard matrix (10_state.md R31, R69, R70);
that a step is one call of the host is the model's form (log 3). -/
def Obligations.StepRunsDecoded : Prop :=
  ∀ (s : State) (k : Call) (rest : List Call) (i : Instr), s.calls = k :: rest → s.now.toNat ≤ k.now.toNat →
    decode k.bytes = .ok i → step s = exec i (((s.setCalls rest).setNow k.now).setKbd k.kbd)

/-- An operation handed over at the present time and keyboard matrix runs on the state as it stands: the encoding of
every instruction is run as that instruction. The bytes and the hand-over are the model's choice (log 1, log 3). -/
def Obligations.StepRunsHandedOver : Prop :=
  ∀ (i : Instr) (s : State), step (s.handOver (encode i)) = exec i s

/-- When a step runs no operation: at the end of the trace it stops (70_reset_and_hazards.md R516); a call with an
earlier tick marks the run (R515, R435); bytes that are no operation are refused by name. The form of the trace and these three answers are the model's choice
(log 1, log 3, log 28). -/
def Obligations.StepWithoutOperation : Prop :=
  (∀ s : State, s.calls = [] → step s = .fault .endOfTrace) ∧
  (∀ (s : State) (k : Call) (rest : List Call), s.calls = k :: rest → k.now.toNat < s.now.toNat →
    step s = .next (((s.setCalls rest).setRefused true).setResult .none)) ∧
  (∀ (s : State) (k : Call) (rest : List Call) (e : DecodeError), s.calls = k :: rest → s.now.toNat ≤ k.now.toNat →
    decode k.bytes = .error e → step s = .refused (.undecodable e))

/-- The values the spec gives at power-on (70_reset_and_hazards.md R492, R495): latches and page table, stores, port
slots, raster line, sound accumulator, FDC, installed peripherals, the refusal mark. That nothing has been handed over to
the host yet is the model's choice (log 9). -/
def Obligations.PowerOnValues : Prop :=
  let s := State.reset
  s.paging.port02 = 0#8 ∧ s.paging.bind = decodePages Config.cfg s.paging.port02 s.paging.port03 s.paging.pagePort3 ∧
  s.paging.bind.get 0 = .sys ∧ s.paging.tapeMotor = s.paging.port03.getLsbD Config.cfg.mem.tapeMotorBit.val ∧
  s.sysRom = Config.cfg.sysRom ∧ s.extRom = Config.cfg.extRom ∧ s.slots = Slots.construction Config.cfg ∧
  s.video.line = 0 ∧ s.video.frameCount = 0#64 ∧
  s.sound.sndTick = s.now ∧ s.sound.sndEvents = [] ∧ s.sound.sndBase = 0 ∧ s.sound.lastEnd = 0 ∧
  s.fdc.fop = .none ∧ s.fdc.fmode = .typeI ∧ s.fdc.drq = false ∧ s.fdc.intrq = false ∧ s.fdc.rnf = false ∧
  s.fdc.lostData = false ∧ s.fdc.headLoad = false ∧ s.fdc.wpErr = false ∧ s.fdc.fidx = 0 ∧ s.fdc.fbuf = [] ∧
  s.fdc.flast = s.now ∧ s.fdc.fwId = [] ∧ s.fdc.fwSector = [] ∧
  (∀ k : Fin 4, s.card.get k = Config.cfg.cards k) ∧ s.cart = Config.cfg.cart.map (fun n => .dev (.other n)) ∧
  s.frameOut = [] ∧ s.audioOut = [] ∧ s.refused = false

/-! ### The whole machine -/

/-- The invariant holds at power-on (10_state.md R76). -/
def Obligations.PowerOnInvariant : Prop := State.Inv Config.cfg State.reset

/-- Every step keeps the invariant (R76): the memory's canonical form, the page table the decode of the latches, every
handler registered by the base machine, by the peripheral its slot holds or by the host (log 16), heads
on their tracks, the flags that stay false, the line index in the frame, the postscalers below their period, and the
recorded levels in order up to a tick that has come. -/
def Obligations.StepKeepsInvariant : Prop :=
  ∀ s t : State, State.Inv Config.cfg s → step s = .next t → State.Inv Config.cfg t

/-- No operation stops the block, in any state (60_exceptions.md R450). That an operation the spec refuses answers a next
state with the mark set, and is no stop, is the model's reading (log 4). -/
def Obligations.NothingStops : Prop := ∀ (i : Instr) (s : State), ∃ t : State, exec i s = .next t

/-- No operation writes a ROM store (10_state.md R35), moves time (47_timing.md R440), or changes what the host gives;
what was handed over to the host stays as it was (10_state.md R71, 44_sound.md R307). -/
def Obligations.ExecKeepsInputs : Prop :=
  ∀ (i : Instr) (s t : State), exec i s = .next t →
    t.sysRom = s.sysRom ∧ t.extRom = s.extRom ∧ t.now = s.now ∧ t.kbd = s.kbd ∧ t.calls = s.calls ∧
    s.frameOut <+: t.frameOut ∧ s.audioOut <+: t.audioOut

/-- No operation clears the refusal mark (10_state.md R78), and only those of 60_exceptions.md R452 set it: a port write
only where the FDC's command register stands in its slot and the byte is a command the spec refuses. That a refusal is a
next state with the mark set is the model's reading (log 4). -/
def Obligations.RefusalMark : Prop :=
  ∀ (i : Instr) (s t : State), exec i s = .next t →
    (s.refused = true → t.refused = true) ∧ (s.refused = false → t.refused = true → mayRefuse s i)

/-- The flip-flop is set only by the video controller and the built-in sound generator, so never by the FDC, a card or a
reset, and cleared only by a write to port 0x07 (60_exceptions.md R456, R458). A port transaction sets or clears it only
where one of their handlers stands in its slot. -/
def Obligations.FlipFlopSources : Prop :=
  ∀ (i : Instr) (s t : State), exec i s = .next t →
    (s.intFF = false → t.intFF = true → maySetInt s i) ∧ (s.intFF = true → t.intFF = false → mayClearInt s i)

/-- A page binding changes only in a write to a paging-control port or a reset (20_memory.md R88, 10_state.md R40): in a
port write only where a paging handler stands in its slot, in a reset only while the mapper's reset handler is
registered. -/
def Obligations.BindingsChangeOnlyByPaging : Prop :=
  ∀ (i : Instr) (s t : State), exec i s = .next t → ¬mayRebind s i → t.paging = s.paging

/-! ### Memory transactions -/

/-- MEMRD (40_memory_bus.md R170, 20_memory.md R84, R90, R91, R95): the byte the page's store or window gives, and no
change but the window's own. That the FDC card has no memory window, and that what is in the cartridge socket always
answers, are the model's readings (log 13, log 38). -/
def Obligations.MemrdAnswers : Prop :=
  (∀ (a : Word) (s : State),
    exec (.memrd a) s =
      .next ((memRead Config.cfg a s).2.setResult (.byte (memRead Config.cfg a s).1))) ∧
  (∀ (c : Cfg) (a : Word) (s : State), s.tagOf a = .sys →
    memRead c a s = ((s.sysRom[(offsetOf a).toNat]?).getD 0xFF#8, s)) ∧
  (∀ (c : Cfg) (a : Word) (s : State), s.tagOf a = .ext → c.mem.extSplit ≤ (offsetOf a).toNat →
    memRead c a s = ((s.extRom[(offsetOf a).toNat - c.mem.extSplit]?).getD 0xFF#8, s)) ∧
  (∀ (c : Cfg) (a : Word) (s : State) (cell : Nat), tagCell (s.tagOf a) (offsetOf a) = some cell →
    memRead c a s = (s.mem.read cell, s)) ∧
  (∀ (c : Cfg) (a : Word) (s : State), s.window c (s.tagOf a) (offsetOf a) = some none →
    memRead c a s = (0xFF#8, s)) ∧
  (∀ (c : Cfg) (a : Word) (s : State) (p : Periph), s.window c (s.tagOf a) (offsetOf a) = some (some p) →
    memRead c a s = periphMemRead c p (offsetOf a) s) ∧
  (∀ (c : Cfg) (n : Nat) (o : BitVec 14) (s : State),
    let r := c.dev.memRead (.other n) (s.core c (.other n)) s.now o
    periphMemRead c (.dev (.other n)) o s = (r.1, s.setCore (.other n) r.2))

/-- MEMWR of a page bound to user or video RAM (40_memory_bus.md R171): the byte is stored, every other byte of memory
and every other field keeps its value, and a MEMRD through any page that shows the cell reads it (20_memory.md R93,
R102). -/
def Obligations.MemwrStores : Prop :=
  ∀ (a : Word) (v : Byte) (s : State) (cell : Nat), s.MemoryOk → tagCell (s.tagOf a) (offsetOf a) = some cell →
    ∃ t : State, exec (.memwr a v) s = .next t ∧ t.mem.read cell = v ∧
      (∀ x : Nat, x ≠ cell → t.mem.read x = s.mem.read x) ∧ t = { s with mem := t.mem, result := .none } ∧
      (∀ b : Word, tagCell (s.tagOf b) (offsetOf b) = some cell → exec (.memrd b) t = .next (t.setResult (.byte v)))

/-- A write to a ROM is silently discarded: MEMWR to a page bound to `SYS` or to the ROM part of `EXT`, and the debug
write to a ROM store (20_memory.md R92). -/
def Obligations.RomWritesDiscarded : Prop :=
  (∀ (c : Cfg) (a : Word) (v : Byte) (s : State), s.tagOf a = .sys → memWrite c a v s = s) ∧
  (∀ (c : Cfg) (a : Word) (v : Byte) (s : State), s.tagOf a = .ext → c.mem.extSplit ≤ (offsetOf a).toNat →
    memWrite c a v s = s) ∧
  (∀ (pg o : Nat) (v : Byte) (s : State),
    exec (.dbgwr .sys pg o v) s = .next (s.setResult .none) ∧
    exec (.dbgwr .extRom pg o v) s = .next (s.setResult .none)) ∧
  (∀ (a : Word) (v : Byte) (s : State),
    exec (.memwr a v) s = .next ((memWrite Config.cfg a v s).setResult .none))

/-- MEMWR of a page bound to a peripheral window (40_memory_bus.md R171, 20_memory.md R84, R95) is the peripheral's own
write, or has no effect on an unpopulated window. An access to a numbered peripheral, through its window, its port handlers
or its Reset, runs its own function on its own state at the present tick (log 14); one to a sound chip first catches the
chip up to `now` (44_sound.md R313), then writes its registers and records its level. No access to a device, nor its
callback, changes more than that device's state (46_backplane.md R401); that it changes no handler list is the model's
choice (log 44). A handler of the host changes its own state and the handler lists (log 15). That the FDC card has no
memory window is the model's reading (log 13). -/
def Obligations.DeviceAccess : Prop :=
  (∀ (c : Cfg) (a : Word) (v : Byte) (s : State), s.window c (s.tagOf a) (offsetOf a) = some none → memWrite c a v s = s) ∧
  (∀ (c : Cfg) (a : Word) (v : Byte) (s : State) (p : Periph), s.window c (s.tagOf a) (offsetOf a) = some (some p) →
    memWrite c a v s = periphMemWrite c p (offsetOf a) v s) ∧
  (∀ (c : Cfg) (n : Nat) (a : Word) (o : BitVec 14) (v : Byte) (s : State),
    let d : Dev := .other n
    let x := s.core c d
    periphMemWrite c (.dev d) o v s = s.setCore d (c.dev.memWrite d x s.now o v) ∧
      runReader c (.dev d) a v s =
        ((c.dev.portRead d x s.now a v).1, s.setCore d (c.dev.portRead d x s.now a v).2) ∧
      runWriter c (.dev d) a v s = s.setCore d (c.dev.portWrite d x s.now a v) ∧
      runReset c (.dev d) s = s.setCore d (c.dev.reset d x s.now)) ∧
  (∀ (c : Cfg) (d : Dev) (a : Word) (o : BitVec 14) (v : Byte) (s : State), d = .xsnd6 ∨ d = .xsnd4 →
    let accessed (acc : Access) (f : Nat → Nat) : State :=
      s.overChip (fun z =>
        let x := chipAdvance c d s.now z
        { x with
          core := f x.core
          tone := (c.dev.toneWrites d x.core acc).foldl toneWrite x.tone
          events := x.events ++ [(s.now, c.dev.chipLevel d (f x.core))] }) d
    let core := (s.chipCatchUp c d s.now).core c d
    periphMemRead c (.dev d) o s =
        ((c.dev.memRead d core s.now o).1, accessed (.memRead o) fun k => (c.dev.memRead d k s.now o).2) ∧
      periphMemWrite c (.dev d) o v s = accessed (.memWrite o v) (fun k => c.dev.memWrite d k s.now o v) ∧
      runReader c (.dev d) a v s =
        ((c.dev.portRead d core s.now a v).1, accessed (.portRead a v) fun k => (c.dev.portRead d k s.now a v).2) ∧
      runWriter c (.dev d) a v s = accessed (.portWrite a v) (fun k => c.dev.portWrite d k s.now a v) ∧
      runReset c (.dev d) s = accessed .reset (fun k => c.dev.reset d k s.now)) ∧
  (∀ (c : Cfg) (d : Dev) (a : Word) (o : BitVec 14) (v : Byte) (t : Tick) (s : State),
    s.OnlyDevice d (periphMemRead c (.dev d) o s).2 ∧ s.OnlyDevice d (periphMemWrite c (.dev d) o v s) ∧
      s.OnlyDevice d (runReader c (.dev d) a v s).2 ∧ s.OnlyDevice d (runWriter c (.dev d) a v s) ∧
      s.OnlyDevice d (runReset c (.dev d) s) ∧ s.OnlyDevice d (periphPeriodic c t (some (.dev d)) s)) ∧
  (∀ (c : Cfg) (n : Nat) (a : Word) (v : Byte) (s : State),
    s.OnlyExt n (runReader c (.ext n) a v s).2 ∧ s.OnlyExt n (runWriter c (.ext n) a v s) ∧
      s.OnlyExt n (runReset c (.ext n) s))

/-- DBGRD (40_memory_bus.md R172): a store by page and offset, whichever pair gives the index and whatever the paging; a peripheral's window by its own debug
view, or 0xFF without one; and 0xFF out of range. How the stores are described, and that the FDC registers no debug view,
are the model's choice (log 26). -/
def Obligations.DebugReads : Prop :=
  (∀ (k : Fin 4) (x : BitVec 14) (pg o : Nat) (s : State), pg * 0x4000 + o = k.val * 0x4000 + x.toNat →
    exec (.dbgrd .userRam pg o) s = .next (s.setResult (.byte (s.mem.read (userCell k x))))) ∧
  (∀ (b : Nat) (x : BitVec 14) (pg o : Nat) (s : State), b < Config.cfg.vidBanks →
    pg * 0x4000 + o = b * 0x4000 + x.toNat →
    exec (.dbgrd .videoRam pg o) s = .next (s.setResult (.byte (s.mem.read (videoCell b x))))) ∧
  (∀ (pg o : Nat) (s : State),
    let index (rom : List Byte) : Nat := pg * (rom.length / max 1 ((rom.length + 0x3FFF) / 0x4000)) + o
    exec (.dbgrd .sys pg o) s = .next (s.setResult (.byte ((s.sysRom[index s.sysRom]?).getD 0xFF#8))) ∧
    exec (.dbgrd .extRom pg o) s = .next (s.setResult (.byte ((s.extRom[index s.extRom]?).getD 0xFF#8)))) ∧
  (∀ (k : Fin 4) (o : BitVec 14) (s : State),
    let view (p : Option Periph) : Byte :=
      match p with
      | some (.dev d) => (Config.cfg.dev.debugRead d (s.core Config.cfg d) o.toNat).getD 0xFF#8
      | some .fdc | none => 0xFF#8
    exec (.dbgrd .cart 0 o.toNat) s = .next (s.setResult (.byte (view s.cart))) ∧
    exec (.dbgrd (.card k) 0 o.toNat) s = .next (s.setResult (.byte (view (s.card.get k))))) ∧
  (∀ (d : DbgStore) (pg o : Nat) (s : State), storeSize Config.cfg s d ≤ debugIndex (debugDesc Config.cfg s d) pg o →
    exec (.dbgrd d pg o) s = .next (s.setResult (.byte 0xFF#8))) ∧
  (∀ (d : DbgStore) (pg o : Nat) (s : State) (q : Paging),
    ∃ v : Byte, exec (.dbgrd d pg o) s = .next (s.setResult (.byte v)) ∧
      exec (.dbgrd d pg o) (s.setPaging q) = .next ((s.setPaging q).setResult (.byte v)))

/-- DBGWR of user RAM and video RAM (40_memory_bus.md R173), whichever page and offset give the index: the byte is stored, every other byte of memory and every
other field keeps its value; out of range there is no effect, and a window takes no debug write. How the stores are
described, and a page that a store does not have, are the model's choice (log 26). -/
def Obligations.DebugWrites : Prop :=
  (∀ (k : Fin 4) (x : BitVec 14) (pg o : Nat) (v : Byte) (s : State), s.MemoryOk →
    pg * 0x4000 + o = k.val * 0x4000 + x.toNat →
    ∃ t : State, exec (.dbgwr .userRam pg o v) s = .next t ∧ t.mem.read (userCell k x) = v ∧
      (∀ y : Nat, y ≠ userCell k x → t.mem.read y = s.mem.read y) ∧ t = { s with mem := t.mem, result := .none }) ∧
  (∀ (b : Nat) (x : BitVec 14) (pg o : Nat) (v : Byte) (s : State), s.MemoryOk → b < Config.cfg.vidBanks →
    pg * 0x4000 + o = b * 0x4000 + x.toNat →
    ∃ t : State, exec (.dbgwr .videoRam pg o v) s = .next t ∧ t.mem.read (videoCell b x) = v ∧
      (∀ y : Nat, y ≠ videoCell b x → t.mem.read y = s.mem.read y) ∧ t = { s with mem := t.mem, result := .none }) ∧
  (∀ (pg o : Nat) (v : Byte) (s : State),
    (0x10000 ≤ pg * 0x4000 + o → exec (.dbgwr .userRam pg o v) s = .next (s.setResult .none)) ∧
    (Config.cfg.vidBanks * 0x4000 ≤ pg * 0x4000 + o →
      exec (.dbgwr .videoRam pg o v) s = .next (s.setResult .none))) ∧
  (∀ (pg o : Nat) (v : Byte) (k : Fin 4) (s : State),
    exec (.dbgwr .cart pg o v) s = .next (s.setResult .none) ∧
    exec (.dbgwr (.card k) pg o v) s = .next (s.setResult .none))

/-! ### Paging -/

/-- The paging-control ports (42_system_ports.md R214, R216, R218): the latch takes the byte, the page table is the
decode of the latches, the tape motor follows its bit, and nothing else changes. With no page bound to `EXT`, a write to
0x03 changes no binding (R216). With no third port its row has no effect (log 12). -/
def Obligations.PagingPortWrites : Prop :=
  ∀ (v : Byte) (s : State),
    exec (.outPaging v) s =
      .next ((s.setPaging
        { port02 := v, port03 := s.paging.port03, pagePort3 := s.paging.pagePort3
          bind := decodePages Config.cfg v s.paging.port03 s.paging.pagePort3
          tapeMotor := s.paging.port03.getLsbD Config.cfg.mem.tapeMotorBit.val }).setResult .none) ∧
    exec (.outExtsel v) s =
      .next ((s.setPaging
        { port02 := s.paging.port02, port03 := v, pagePort3 := s.paging.pagePort3
          bind := decodePages Config.cfg s.paging.port02 v s.paging.pagePort3
          tapeMotor := v.getLsbD Config.cfg.mem.tapeMotorBit.val }).setResult .none) ∧
    exec (.outPage3 v) s =
      (if Config.cfg.pagePort3.isSome then
        .next ((s.setPaging
          { port02 := s.paging.port02, port03 := s.paging.port03, pagePort3 := v
            bind := decodePages Config.cfg s.paging.port02 s.paging.port03 v
            tapeMotor := s.paging.port03.getLsbD Config.cfg.mem.tapeMotorBit.val }).setResult .none)
      else .next (s.setResult .none)) ∧
    (s.paging.bind = decodePages Config.cfg s.paging.port02 s.paging.port03 s.paging.pagePort3 →
      (∀ p : Fin 4, s.paging.bind.get p ≠ .ext) →
      decodePages Config.cfg s.paging.port02 v s.paging.pagePort3 = s.paging.bind)

/-- What every page decode meets (20_memory.md R86, R87): the four pages' fields are disjoint, of one or two bits; a page
depends on port02 through its own field only; only page
1 depends on the revision and the other latches, and while no page shows `EXT` not on port03 (42_system_ports.md R216);
page 0 shows `SYS` at 0x00 and the cartridge at some value; an undefined value, or a video bank that does not exist,
falls back to the page's user RAM. -/
def Obligations.PageDecodeConstraints : Prop :=
  ∀ c : Cfg,
    (∃ m : Fin 4 → Byte,
      (∀ p q : Fin 4, p ≠ q → m p &&& m q = 0#8) ∧
      (∀ p : Fin 4, (List.range 8).countP (fun i => (m p).getLsbD i) = if c.paging.wide p then 2 else 1) ∧
      (∀ (p : Fin 4) (v w : Byte), v &&& m p = w &&& m p → pageField c p v = pageField c p w)) ∧
    (∀ (p : Fin 4) (v w x y x' y' : Byte) (r : HwRev), p ≠ 1 → pageField c p v = pageField c p w →
      decodePage c v x y p = decodePage { c with rev := r } w x' y' p) ∧
    (∀ v w x y : Byte, pageField c 1 v = pageField c 1 w → decodePage c v x y 1 = decodePage c w x y 1) ∧
    (∀ v x x' y : Byte, (∀ p : Fin 4, decodePage c v x y p ≠ .ext) →
      ∀ p : Fin 4, decodePage c v x' y p = decodePage c v x y p) ∧
    (∀ x y : Byte, decodePage c 0#8 x y 0 = .sys) ∧
    (∃ v : Byte, ∀ x y : Byte, decodePage c v x y 0 = .cart) ∧
    (∀ (v x y : Byte) (p : Fin 4), rawTag c v x y p = none → decodePage c v x y p = .u p) ∧
    (∀ (v x y : Byte) (p : Fin 4) (b : Nat), rawTag c v x y p = some (.vid b) →
      decodePage c v x y p = if b < c.vidBanks then .vid b else .u p)

/-! ### The port bus -/

/-- A deregistration right after the registration leaves the whole state as it was, so every later port operation and
BUSRESET behaves as before (41_portbus.md R201). -/
def Obligations.AddRemoveRoundTrip : Prop :=
  ∀ (p : Byte) (s : State),
    (∀ h : Reader, ∃ t : State, exec (.addreader p h) s = .next t ∧
      exec (.removereader p h) t = .next (s.setResult .none)) ∧
    (∀ h : Writer, ∃ t : State, exec (.addwriter p h) s = .next t ∧
      exec (.removewriter p h) t = .next (s.setResult .none)) ∧
    (∀ h : Resetter, ∃ t : State, exec (.addreset p h) s = .next t ∧
      exec (.removereset p h) t = .next (s.setResult .none))

/-- A registration appends to its own list of its own slot (41_portbus.md R193 to R195); the other lists, the other
slots and every other field keep their values. The owner beside the handler is the model's (log 16). -/
def Obligations.RegistrationAppends : Prop :=
  ∀ (p : Byte) (s : State),
    (∀ h : Reader, ∃ t : State, exec (.addreader p h) s = .next t ∧ t = { s with slots := t.slots, result := .none } ∧
      t.slots.at p = { s.slots.at p with readers := (s.slots.at p).readers ++ [⟨.host, h⟩] } ∧
      (∀ q : Byte, q ≠ p → t.slots.at q = s.slots.at q)) ∧
    (∀ h : Writer, ∃ t : State, exec (.addwriter p h) s = .next t ∧ t = { s with slots := t.slots, result := .none } ∧
      t.slots.at p = { s.slots.at p with writers := (s.slots.at p).writers ++ [⟨.host, h⟩] } ∧
      (∀ q : Byte, q ≠ p → t.slots.at q = s.slots.at q)) ∧
    (∀ h : Resetter, ∃ t : State, exec (.addreset p h) s = .next t ∧ t = { s with slots := t.slots, result := .none } ∧
      t.slots.at p = { s.slots.at p with resets := (s.slots.at p).resets ++ [⟨.host, h⟩] } ∧
      (∀ q : Byte, q ≠ p → t.slots.at q = s.slots.at q))

/-- A deregistration deletes the last occurrence of the handler in its list, and changes nothing when the handler is
absent (41_portbus.md R196 to R198, 00_scope.md R10). -/
def Obligations.RemovalTakesLast : Prop :=
  (∀ (p : Byte) (h : Reader) (s : State),
    ((∀ e ∈ (s.slots.at p).readers, e.handler ≠ h) → exec (.removereader p h) s = .next (s.setResult .none)) ∧
    (∀ l m : List Reader, (s.slots.at p).readers.map Entry.handler = l ++ h :: m → h ∉ m →
      ∃ t : State, exec (.removereader p h) s = .next t ∧ (t.slots.at p).readers.map Entry.handler = l ++ m ∧
        t = { s with slots := t.slots, result := .none } ∧ (∀ q : Byte, q ≠ p → t.slots.at q = s.slots.at q) ∧
        t.slots.at p = { s.slots.at p with readers := (t.slots.at p).readers })) ∧
  (∀ (p : Byte) (h : Writer) (s : State),
    ((∀ e ∈ (s.slots.at p).writers, e.handler ≠ h) → exec (.removewriter p h) s = .next (s.setResult .none)) ∧
    (∀ l m : List Writer, (s.slots.at p).writers.map Entry.handler = l ++ h :: m → h ∉ m →
      ∃ t : State, exec (.removewriter p h) s = .next t ∧ (t.slots.at p).writers.map Entry.handler = l ++ m ∧
        t = { s with slots := t.slots, result := .none } ∧ (∀ q : Byte, q ≠ p → t.slots.at q = s.slots.at q) ∧
        t.slots.at p = { s.slots.at p with writers := (t.slots.at p).writers })) ∧
  (∀ (p : Byte) (h : Resetter) (s : State),
    ((∀ e ∈ (s.slots.at p).resets, e.handler ≠ h) → exec (.removereset p h) s = .next (s.setResult .none)) ∧
    (∀ l m : List Resetter, (s.slots.at p).resets.map Entry.handler = l ++ h :: m → h ∉ m →
      ∃ t : State, exec (.removereset p h) s = .next t ∧ (t.slots.at p).resets.map Entry.handler = l ++ m ∧
        t = { s with slots := t.slots, result := .none } ∧ (∀ q : Byte, q ≠ p → t.slots.at q = s.slots.at q) ∧
        t.slots.at p = { s.slots.at p with resets := (t.slots.at p).resets }))

/-- A port read runs the readers its slot held when it began, in registration order, from the idle byte 0xFF, each on
the byte and the state the one before left (41_portbus.md R190, R200, R203, R204). -/
def Obligations.PortReadChain : Prop :=
  ∀ (a : Word) (s : State),
    ((s.slots.at (a.extractLsb' 0 8)).readers = [] → exec (.portrd a) s = .next (s.setResult (.byte 0xFF#8))) ∧
    (∀ (l : List (Entry Reader)) (e : Entry Reader), (s.slots.at (a.extractLsb' 0 8)).readers = l ++ [e] →
      let x := readChain Config.cfg a l (0xFF#8, s)
      let y := runReader Config.cfg e.handler a x.1 x.2
      exec (.portrd a) s = .next (y.2.setResult (.byte y.1)))

/-- A port write runs the writers its slot held when it began, in registration order, each on the byte written and the
state the one before left; a slot with no writer ignores the write (41_portbus.md R191, R200, R203, R204). That the writers
after a refused one still run is the model's reading (log 5). -/
def Obligations.PortWriteChain : Prop :=
  ∀ (a : Word) (v : Byte) (s : State),
    ((s.slots.at (a.extractLsb' 0 8)).writers = [] → exec (.portwr a v) s = .next (s.setResult .none)) ∧
    (∀ (l : List (Entry Writer)) (e : Entry Writer), (s.slots.at (a.extractLsb' 0 8)).writers = l ++ [e] →
      exec (.portwr a v) s =
        .next ((runWriter Config.cfg e.handler a v (writeChain Config.cfg a v l s)).setResult .none))

/-- A port transaction on a slot that holds one handler of the block is that handler's row (30_encoding.md R130, R145,
R155), and so is the command row of a byte written to the FDC's command register (45_fdc.md R332). The high byte of the
port address changes nothing (R121). That a row is the handler's rule itself, and not the whole transaction of its slot,
is the model's reading (log 12); the third paging port, devices and handlers of the host are left out. -/
def Obligations.PortRowsAreHandlers : Prop :=
  (∀ (h : Writer) (v : Byte) (i : Instr) (hi n : Byte) (o : Owner) (s : State), writerRow v h = some i →
    (s.slots.at n).writers = [⟨o, h⟩] → exec (.portwr (hi ++ n) v) s = exec i s) ∧
  (∀ (h : Reader) (i : Instr) (hi n : Byte) (o : Owner) (s : State), readerRow h = some i →
    (s.slots.at n).readers = [⟨o, h⟩] → exec (.portrd (hi ++ n)) s = exec i s) ∧
  (∀ (v : Byte) (s : State), ∃ t : State,
    exec (.fdcCmdW v) s = .next t ∧ exec (fdcCommandOf v).toInstr s = .next t)

/-- A card window port is dispatched like any other, at slot `(w + 1) * 0x10 + k` with the full address
(46_backplane.md R406, 30_encoding.md R143). -/
def Obligations.CardWindowPorts : Prop :=
  ∀ (w : Fin 4) (k : Fin 16) (hi v : Byte) (s : State),
    let a : Word := hi ++ BitVec.ofNat 8 ((w.val + 1) * 0x10 + k.val)
    exec (.inCardwin w k hi) s = .next ((portRead Config.cfg a s).2.setResult (.byte (portRead Config.cfg a s).1)) ∧
    exec (.outCardwin w k hi v) s = .next ((portWrite Config.cfg a v s).setResult .none)

/-- With the slots of construction, a write-only system port reads 0xFF and a read-only one ignores writes, at every
high address byte (42_system_ports.md R234). -/
def Obligations.SystemPortsIdle : Prop :=
  ∀ (c : Cfg) (s : State), s.slots = Slots.construction c →
    (∀ n ∈ [0x00#8, 0x02#8, 0x03#8, 0x04#8, 0x05#8, 0x06#8, 0x07#8, 0x60#8, 0x61#8, 0x62#8, 0x63#8, 0x70#8],
      ∀ hi : Byte, portRead c (hi ++ n) s = (0xFF#8, s)) ∧
    (∀ n ∈ [0x58#8, 0x59#8, 0x5A#8, 0x5B#8], ∀ hi v : Byte, portWrite c (hi ++ n) v s = s)

/-! ### Reset -/

/-- After BUSRESET or RESET of a machine whose mapper still has its reset handler, the latches are zero, the page table
is their decode, page 0 is `SYS`, and MEMRD of 0x0000 returns the first byte of the system ROM (70_reset_and_hazards.md
R491, 42_system_ports.md R220). -/
def Obligations.ResetPaging : Prop :=
  ∀ (s : State) (p : Byte) (o : Owner), ⟨o, .mapper⟩ ∈ (s.slots.at p).resets →
    ∀ i ∈ [Instr.busreset, Instr.reset], ∃ t : State, exec i s = .next t ∧
      t.paging = { port02 := 0#8, port03 := 0#8, pagePort3 := 0#8, bind := decodePages Config.cfg 0#8 0#8 0#8
                   tapeMotor := false } ∧
      t.tagOf 0x0000#16 = .sys ∧
      exec (.memrd 0x0000#16) t = .next (t.setResult (.byte ((s.sysRom[0]?).getD 0xFF#8)))

/-- The FDC's reset handler (45_fdc.md R396), run by BUSRESET when it is registered: the operation and every flag are
cleared and the other registers and the drives kept. -/
def Obligations.FdcResetHandler : Prop :=
  ∀ (s : State) (p : Byte) (o : Owner), ⟨o, .fdc⟩ ∈ (s.slots.at p).resets →
    ∃ t : State, exec .busreset s = .next t ∧
      t.fdc =
        { s.fdc with
          fop := .none, fmode := .typeI, drq := false, intrq := false, rnf := false, lostData := false
          headLoad := false, wpErr := false, fidx := 0, fbuf := [], fwId := [], fwSector := [], flast := s.now }

/-- What BUSRESET and RESET keep (70_reset_and_hazards.md R492, R493, 43_video.md R250, 44_sound.md R290): memory, the
flip-flop, video, the built-in sound generator, the installed peripherals, the FDC's registers, selection and drives, and
the handler lists unless a handler of the host's own registers something. BUSRESET runs every reset handler as often as it
is registered, slots ascending and in registration order (41_portbus.md R192), and RESET runs BUSRESET and then the Reset
of what is in the cartridge socket (R490, 46_backplane.md R411). -/
def Obligations.ResetKeeps : Prop :=
  (∀ s : State, ∀ i ∈ [Instr.busreset, Instr.reset], ∃ t : State, exec i s = .next t ∧
    t = { s with
          paging := t.paging, slots := t.slots, xsnd6 := t.xsnd6, xsnd4 := t.xsnd4, fdc := t.fdc, others := t.others
          exts := t.exts, result := .none } ∧
    t.fdc.fcmd = s.fdc.fcmd ∧ t.fdc.ftr = s.fdc.ftr ∧ t.fdc.fsr = s.fdc.fsr ∧ t.fdc.fdr = s.fdc.fdr ∧
    t.fdc.fcur = s.fdc.fcur ∧ t.fdc.fside = s.fdc.fside ∧ t.fdc.drive = s.fdc.drive ∧
    ((∀ p : Byte, ∀ e ∈ (s.slots.at p).resets, ∀ n : Nat, e.handler ≠ .ext n) → t.slots = s.slots)) ∧
  (∀ s : State,
    exec .busreset s =
      .next ((((List.finRange 256).flatMap fun n => (s.slots.at (BitVec.ofFin n)).resets).foldl
        (fun u e => runReset Config.cfg e.handler u) s).setResult .none)) ∧
  (∀ s : State, ∃ t : State, exec .busreset s = .next t ∧
    exec .reset s =
      .next ((match s.cart with
        | some (.dev d) => runReset Config.cfg (.dev d) t
        | some .fdc => runReset Config.cfg .fdc t
        | none => t).setResult .none))

/-! ### System ports and video -/

/-- The latches written at the border, palette, CRTC and graphics-mode ports (42_system_ports.md R212, R232; 43_video.md
R252, R253, R255): the register takes the byte, an index of 18 or more selects none, and nothing else changes. -/
def Obligations.LatchWrites : Prop :=
  ∀ (v : Byte) (s : State),
    exec (.outBorder v) s = .next ((s.setVideo { s.video with border := v }).setResult .none) ∧
    exec (.outPal0 v) s = .next ((s.setVideo { s.video with palette := s.video.palette.set 0 v }).setResult .none) ∧
    exec (.outPal1 v) s = .next ((s.setVideo { s.video with palette := s.video.palette.set 1 v }).setResult .none) ∧
    exec (.outPal2 v) s = .next ((s.setVideo { s.video with palette := s.video.palette.set 2 v }).setResult .none) ∧
    exec (.outPal3 v) s = .next ((s.setVideo { s.video with palette := s.video.palette.set 3 v }).setResult .none) ∧
    exec (.outGfxmode v) s = .next ((s.setVideo { s.video with gfxLatch := v }).setResult .none) ∧
    exec (.outCrtcaddr v) s = .next ((s.setVideo { s.video with crtcIdx := v.extractLsb' 0 5 }).setResult .none) ∧
    exec (.outCrtcdata v) s =
      (if h : s.video.crtcIdx.toNat < 18 then
        .next ((s.setVideo { s.video with crtc := s.video.crtc.set s.video.crtcIdx.toNat v h }).setResult .none)
      else .next (s.setResult .none))

/-- The reads of ports 0x58, 0x5A, 0x5B and 0x71 (42_system_ports.md R226, R230; 46_backplane.md R408; 43_video.md R254):
the selected keyboard row; two ID bits per slot, 0b11 for an empty one; a draw, whatever its value; a readable CRTC
register or a draw (log 11, log 33). Nothing changes but the number of draws taken. -/
def Obligations.SystemReads : Prop :=
  ∀ s : State,
    exec .inKbd s = .next (s.setResult (.byte (s.kbd.get (Config.cfg.mem.kbdRow s.paging.port03)))) ∧
    (∃ b : Byte, exec .inCardid s = .next (s.setResult (.byte b)) ∧
      (∀ k : Fin 4, b.extractLsb' (2 * k.val) 2 =
        match s.card.get k with
        | some p => (periphId Config.cfg (s.core Config.cfg) p).extractLsb' 0 2
        | none => 0b11#2) ∧
      ((∀ k : Fin 4, s.card.get k = none) → b = 0xFF#8)) ∧
    exec .inAckstat s =
      .next ((s.setDraws (s.draws + 1)).setResult (.byte (Config.cfg.freeByte s.draws))) ∧
    exec .inCrtcdata s =
      (if h : s.video.crtcIdx.toNat < 18 then
        if Config.cfg.video.crtcRead s.video.crtcIdx.toFin then
          .next (s.setResult (.byte s.video.crtc[s.video.crtcIdx.toNat]))
        else .next ((s.setDraws (s.draws + 1)).setResult (.byte (Config.cfg.freeByte s.draws)))
      else .next ((s.setDraws (s.draws + 1)).setResult (.byte (Config.cfg.freeByte s.draws))))

/-- The read of port 0x59 (42_system_ports.md R228, 30_encoding.md R135): after the sound catch-up, the flip-flop in its
bit and polarity, the other bits of a draw (log 11), whatever its value; the flip-flop is not cleared. -/
def Obligations.IntStatusRead : Prop :=
  ∀ s : State, ∃ (t : State) (b : Byte), exec .inIntstat s = .next t ∧ t.result = .byte b ∧
    b.getLsbD Config.cfg.mem.intStatusBit.val = (if Config.cfg.mem.intStatusLow then !t.intFF else t.intFF) ∧
    (∀ j : Nat, j < 8 → j ≠ Config.cfg.mem.intStatusBit.val → b.getLsbD j = (Config.cfg.freeByte s.draws).getLsbD j) ∧
    t.intFF = (s.soundCatchUp Config.cfg s.now).intFF ∧ t.sound = (s.soundCatchUp Config.cfg s.now).sound ∧
    (s.intFF = true → t.intFF = true) ∧
    t = { s with sound := t.sound, intFF := t.intFF, draws := s.draws + 1, result := .byte b }

/-- RENDERLINE (43_video.md R258, R269): the line index moves on, the last line of a frame hands the painted frame over
and counts it, and no register the CPU writes, no memory and no other unit changes. -/
def Obligations.RenderlineAdvances : Prop :=
  ∀ s : State, ∃ t : State, exec .renderline s = .next t ∧
    t.video.line = (if s.video.line + 1 = Config.cfg.linesPerFrame then 0 else s.video.line + 1) ∧
    t.video.frameCount =
      (if s.video.line + 1 = Config.cfg.linesPerFrame then s.video.frameCount + 1#64 else s.video.frameCount) ∧
    t.frameOut =
      (if s.video.line + 1 = Config.cfg.linesPerFrame then s.frameOut ++ [t.video.frameBuf] else s.frameOut) ∧
    (∀ l : Nat, l ≠ s.video.line → t.video.frameBuf.getD l [] = s.video.frameBuf.getD l []) ∧
    t.video.border = s.video.border ∧ t.video.palette = s.video.palette ∧ t.video.gfxLatch = s.video.gfxLatch ∧
    t.video.crtcIdx = s.video.crtcIdx ∧ t.video.crtc = s.video.crtc ∧
    t = { s with video := t.video, intFF := t.intFF, frameOut := t.frameOut, draws := t.draws, result := .none }

/-- The raster registers after a line (43_video.md R260, R262, R267, R268, R270): reloaded at the first visible line;
advanced by the displayed characters modulo 2^14 on a displayed line, whose first scanline of a character row sets the
flip-flop on a cursor match; kept on a border line; kept on a noise line, which takes one draw per pixel (log 20). -/
def Obligations.RenderlineRaster : Prop :=
  ∀ (c : Cfg) (s : State),
    let v := s.video
    let w : Video :=
      if v.line = c.video.firstVisible then { v with ma := v.startAddr, rowStart := v.startAddr, ra := 0#2 } else v
    let t := renderLine c s
    if crtcValid c v = false then
      t.video.ma = v.ma ∧ t.video.ra = v.ra ∧ t.video.rowStart = v.rowStart ∧ t.intFF = s.intFF ∧
        t.draws = s.draws + c.video.frameWidth
    else if c.video.firstVisible ≤ v.line ∧ v.line < c.video.firstVisible + 4 * v.displayedRows then
      t.video.ra = w.ra + 1#2 ∧
        t.video.ma = (if w.ra = 3#2 then w.ma + BitVec.ofNat 14 v.displayedChars else w.rowStart) ∧
        t.video.rowStart = (if w.ra = 3#2 then w.ma + BitVec.ofNat 14 v.displayedChars else w.rowStart) ∧
        t.intFF =
          (s.intFF || decide (w.ra = 0#2 ∧ (v.cursorAddr - w.rowStart).toNat < v.displayedChars)) ∧
        t.draws = s.draws
    else
      t.video.ma = w.ma ∧ t.video.ra = w.ra ∧ t.video.rowStart = w.rowStart ∧ t.intFF = s.intFF ∧ t.draws = s.draws

/-- The painted row (43_video.md R261, R263 to R266). On a displayed line: the border, then for each character from the
raster address on the pixels of its video RAM byte in the mode of the graphics latch (eight of one bit, high bit first,
four and two), through the palette or, in the 16-colour mode, as the colour itself, then the border; outside the window
all border. Each pixel comes with its dim value. That a displayed row is as long as its parts together is the model's
reading (log 18). -/
def Obligations.RenderlinePixels : Prop :=
  ∀ (c : Cfg) (s : State),
    let v := s.video
    let w : Video := if v.line = c.video.firstVisible then reloadRaster v else v
    let left := c.video.leftBorder
    let row := (renderLine c s).video.frameBuf.getD v.line []
    let paint (x : Byte) : Pixel × Pixel := (c.video.color x, c.video.dim (c.video.color x))
    let byte (j : Nat) : Byte :=
      s.mem.read (videoCell (s.dispBank c) (c.video.videoAddr (w.ma + BitVec.ofNat 14 j) w.ra))
    let dots : Nat :=
      match c.video.gfxMode v.gfxLatch with
      | .m2 => 8
      | .m4 => 4
      | .m16 => 2
    crtcValid c v = true →
    if c.video.firstVisible ≤ v.line ∧ v.line < c.video.firstVisible + 4 * v.displayedRows then
      row.length = left + dots * v.displayedChars + c.video.rightBorder ∧
      (∀ j : Nat, j < left → row[j]? = some (paint v.border)) ∧
      (∀ j : Nat, j < c.video.rightBorder → row[left + dots * v.displayedChars + j]? = some (paint v.border)) ∧
      (∀ j : Nat, j < v.displayedChars →
        match c.video.gfxMode v.gfxLatch with
        | .m2 =>
          ∀ i : Nat, i < 8 →
            row[left + 8 * j + i]? = some (paint (v.palette.get (if (byte j).getLsbD (7 - i) then 1 else 0)))
        | .m4 =>
          ∀ i : Fin 4, row[left + 4 * j + i.val]? = some (paint (v.palette.get (c.video.unpack4 (byte j) i)))
        | .m16 =>
          ∀ i : Fin 2, row[left + 2 * j + i.val]? = some (paint ((c.video.unpack16 (byte j) i).setWidth 8)))
    else row = List.replicate c.video.frameWidth (paint v.border)

/-! ### Sound -/

/-- The writes to ports 0x04 to 0x07 (44_sound.md R296 to R298, R302; 42_system_ports.md R222): the generator catches up
with the old registers, the register takes the byte and the level is recorded at `now`, or the flip-flop is cleared
whatever the byte; nothing else changes. -/
def Obligations.SoundPortWrites : Prop :=
  ∀ (v : Byte) (s : State),
    let u := s.soundCatchUp Config.cfg s.now
    let level (x : Sound) : Int :=
      Config.cfg.snd.dac (x.ch.get 0).post (x.ch.get 1).post (Config.cfg.snd.volume x.snd05 x.snd06)
        (Config.cfg.snd.enable x.snd05 x.snd06)
    let record (x : Sound) : Sound := { x with sndEvents := x.sndEvents ++ [(s.now, level x)] }
    exec (.outSndfreql v) s = .next ((u.setSound (record { u.sound with snd04 := v })).setResult .none) ∧
    exec (.outSndfreqh v) s = .next ((u.setSound (record { u.sound with snd05 := v })).setResult .none) ∧
    exec (.outSndvol v) s = .next ((u.setSound (record { u.sound with snd06 := v })).setResult .none) ∧
    exec (.outIntclr v) s = .next ((u.setIntFF false).setResult .none) ∧
    u = { s with sound := u.sound, intFF := u.intFF }

/-- One counter step of a channel (44_sound.md R291 to R294, R299, R300): at 0xFFF the divisor is loaded, the postscaler
moves on, the new level is recorded at the tick and the condition may set the flip-flop; else the counter counts. -/
def Obligations.CounterStep : Prop :=
  ∀ (c : Cfg) (t : Tick) (i : Fin 2) (x : Sound) (b : Bool),
    let k := x.ch.get i
    let y := stepChannel c t i (x, b)
    (∀ j : Fin 2, j ≠ i → y.1.ch.get j = x.ch.get j) ∧
    (if k.counter = 0xFFF#12 then
      (y.1.ch.get i).counter =
          (if i = 0 then x.snd05.extractLsb' 0 4 ++ x.snd04 else c.snd.div1 x.snd04 x.snd05 x.snd06) ∧
        (y.1.ch.get i).post = (k.post + 1) % c.postLen ∧
        y.1.sndEvents = x.sndEvents ++ [(t, dacLevel c y.1)] ∧
        y.2 = (b || c.snd.irq i ((k.post + 1) % c.postLen) x.snd05 x.snd06)
    else
      y.1.ch.get i = ⟨k.counter + 1#12, k.post⟩ ∧ y.1.sndEvents = x.sndEvents ∧ y.2 = b) ∧
    y.1 = { x with ch := y.1.ch, sndEvents := y.1.sndEvents }

/-- A catch-up (44_sound.md R292, R299) makes exactly the counter steps of the ticks it passes: up to a tick that is not
later it does nothing; one tick further it is the catch-up to the tick before and then, at a multiple of the prescale
while the oscillator is enabled, one step of each channel; so no wrap is skipped or counted twice, and catching up in two
parts is catching up at once. That channel 0 steps before channel 1 is the model's choice (log 39). An expansion chip's
catch-up does the same (R311 to R313): one tick further, each channel's divider counts from its own register pair and
phase, and the rest of the chip sees the wraps of all of them; that the chip is stepped tick by tick, and that its level is
recorded when it changed, is the model's choice (log 17). -/
def Obligations.CatchUpInSteps : Prop :=
  (∀ (c : Cfg) (t : Tick) (s : State),
    (t.toNat ≤ s.sound.sndTick.toNat → s.soundCatchUp c t = s) ∧
    (s.sound.sndTick.toNat < t.toNat →
      let u := s.soundCatchUp c (t - 1#64)
      let x : Sound × Bool :=
        if t.toNat % c.prescale = 0 ∧ c.snd.enable u.sound.snd05 u.sound.snd06 = true then
          stepChannel c t 1 (stepChannel c t 0 (u.sound, u.intFF))
        else (u.sound, u.intFF)
      s.soundCatchUp c t = (u.setSound { x.1 with sndTick := t }).setIntFF x.2) ∧
    (∀ u : Tick, s.sound.sndTick.toNat ≤ t.toNat → t.toNat ≤ u.toNat →
      (s.soundCatchUp c t).soundCatchUp c u = s.soundCatchUp c u)) ∧
  (∀ (c : Cfg) (d : Dev) (t : Tick) (x : Chip),
    (t.toNat ≤ x.tick.toNat → chipAdvance c d t x = x) ∧
    (x.tick.toNat < t.toNat →
      let u := chipAdvance c d (t - 1#64) x
      let count (i : Nat) (y : ToneReg) : Nat × Nat := c.dev.divider d i y.octave y.divisor y.phase
      let core := c.dev.chipTick d u.core (u.tone.mapIdx fun i y => (count i y).2) t
      chipAdvance c d t x =
        { u with
          core := core
          tone := u.tone.mapIdx fun i y => { y with phase := (count i y).1 }
          tick := t
          events :=
            if c.dev.chipLevel d core = c.dev.chipLevel d u.core then u.events
            else u.events ++ [(t, c.dev.chipLevel d core)] }) ∧
    (∀ u : Tick, x.tick.toNat ≤ t.toNat → t.toNat ≤ u.toNat →
      chipAdvance c d u (chipAdvance c d t x) = chipAdvance c d u x))

/-- RENDER (44_sound.md R303 to R305, R307; R312 for the chips): ahead of time or overlapping it is refused (log 4). Else
the generator catches up to the end of the range, keeps the level it has there, drops the events up to there, and the
range is handed over (as a whole buffer: log 36); the other generators keep their state. In the range of R305 each
sample has the level at its tick added, a chip's on each side its own, and the rest of the buffer stays; outside it the
buffer is a free value (log 35). That a chip which no slot holds is rendered too is the model's choice (log 17). -/
def Obligations.RenderAccumulates : Prop :=
  ∀ (g : Gen) (buf : List (Int × Int)) (b e : Nat) (s : State),
    (¬(sampleTick Config.cfg e ≤ s.now.toNat ∧ s.renderedTo g ≤ b) →
      exec (.render g buf b e) s = .next (s.refuse.setResult .none)) ∧
    (sampleTick Config.cfg e ≤ s.now.toNat → s.renderedTo g ≤ b →
      let τ : Tick := BitVec.ofNat 64 (sampleTick Config.cfg e)
      let u := s.soundCatchUp Config.cfg τ
      let x := u.sound
      let y := chipAdvance Config.cfg .xsnd6 τ s.xsnd6
      let z := chipAdvance Config.cfg .xsnd4 τ s.xsnd4
      let later {α : Type} (l : List (Tick × α)) : List (Tick × α) :=
        l.filter fun p => decide (sampleTick Config.cfg e < p.1.toNat)
      let rendered : State :=
        match g with
        | .builtin =>
          u.setSound { x with
            sndBase := levelAt x.sndBase x.sndEvents (sampleTick Config.cfg e), sndEvents := later x.sndEvents
            lastEnd := e }
        | .xsnd6 =>
          s.setXsnd6 { y with
            base := levelAt y.base y.events (sampleTick Config.cfg e), events := later y.events, lastEnd := e }
        | .xsnd4 =>
          s.setXsnd4 { z with
            base := levelAt z.base z.events (sampleTick Config.cfg e), events := later z.events, lastEnd := e }
      let level (n : Nat) : Int × Int :=
        match g with
        | .builtin => (levelAt x.sndBase x.sndEvents n, levelAt x.sndBase x.sndEvents n)
        | .xsnd6 => levelAt y.base y.events n
        | .xsnd4 => levelAt z.base z.events n
      ∃ (out : List (Int × Int)) (n : Nat),
        exec (.render g buf b e) s =
          .next (((rendered.setAudioOut (s.audioOut ++ [⟨g, b, e, out⟩])).setDraws n).setResult (.samples out)) ∧
        if b ≤ e ∧ e - b ≤ buf.length then
          n = s.draws ∧ out.length = buf.length ∧
          ∀ (j : Nat) (p : Int × Int), buf[j]? = some p →
            out[j]? =
              some (if b + j < e then
                (p.1 + (level (sampleTick Config.cfg (b + j))).1, p.2 + (level (sampleTick Config.cfg (b + j))).2)
              else p)
        else out = Config.cfg.freeSamples s.draws ∧ n = s.draws + 1)

/-- Split invariance (44_sound.md R306; R312 for the chips): rendering `b .. m` and then `m .. e` gives bit for bit what
rendering `b .. e` gives, and leaves the generators and the flip-flop as it leaves them. The premise on the recorded
levels is part of the invariant that every step keeps. -/
def Obligations.RenderSplit : Prop :=
  ∀ (c : Cfg) (g : Gen) (buf1 buf2 : List (Int × Int)) (b m e : Nat) (s : State), s.EventsOk → b ≤ m → m ≤ e →
    buf1.length = m - b → buf2.length = e - m → sampleTick c e ≤ s.now.toNat → s.renderedTo g ≤ b →
    ∃ (t1 t2 u : State) (out1 out2 : List (Int × Int)),
      renderOp c g buf1 b m s = .next t1 ∧ renderOp c g buf2 m e t1 = .next t2 ∧
      renderOp c g (buf1 ++ buf2) b e s = .next u ∧
      t1.result = .samples out1 ∧ t2.result = .samples out2 ∧ u.result = .samples (out1 ++ out2) ∧
      t2.sound = u.sound ∧ t2.intFF = u.intFF ∧ t2.xsnd6 = u.xsnd6 ∧ t2.xsnd4 = u.xsnd4

/-! ### The floppy disk controller -/

/-- The FDC's track, sector, data and drive-select registers (45_fdc.md R333 to R336, R343): a write stores and a read
returns; a data write takes DRQ in a track write, a data read takes it always; a selection moves no operation. -/
def Obligations.FdcRegisters : Prop :=
  ∀ (v : Byte) (s : State),
    exec (.fdcTrackW v) s = .next ((s.setFdc { s.fdc with ftr := v }).setResult .none) ∧
    exec .fdcTrackR s = .next (s.setResult (.byte s.fdc.ftr)) ∧
    exec (.fdcSectorW v) s = .next ((s.setFdc { s.fdc with fsr := v }).setResult .none) ∧
    exec .fdcSectorR s = .next (s.setResult (.byte s.fdc.fsr)) ∧
    exec (.fdcDataW v) s =
      .next ((s.setFdc { s.fdc with
        fdr := v
        drq :=
          if s.fdc.fop ∈ [.trackWriteWaitForIndex, .trackWriteGap, .trackWriteIdAddr, .trackWriteData] then false
          else s.fdc.drq }).setResult .none) ∧
    exec .fdcDataR s = .next ((s.setFdc { s.fdc with drq := false }).setResult (.byte s.fdc.fdr)) ∧
    exec (.fdcCtrlW v) s =
      .next ((s.setFdc { s.fdc with
        fcur := (Config.cfg.fdc.ctrlDecode v).1, fside := (Config.cfg.fdc.ctrlDecode v).2 }).setResult .none)

/-- The status register's bits in each mode (30_encoding.md R150, 10_state.md R73), and INTRQ cleared by its read
(45_fdc.md R342). BUSY is set exactly when an operation is in progress (45_fdc.md R397 (a)). Where the card has a port that
shows INTRQ and DRQ (R390), a read of it answers from the two, and changes nothing (the model's choice, log 41). -/
def Obligations.FdcStatusRead : Prop :=
  ∀ s : State,
    (∃ b : Byte,
      exec .fdcStatusR s = .next ((s.setFdc { s.fdc with intrq := false }).setResult (.byte b)) ∧
      (b.getLsbD 7 = true ↔ ∀ (k : Fin 4) (d : Drive), s.fdc.fcur = some k → s.fdc.drive.get k = some d → d.image = none) ∧
      (b.getLsbD 0 = true ↔ s.fdc.fop ≠ .none) ∧ b.getLsbD 3 = false ∧
      (s.fdc.fmode = .typeI →
        b.getLsbD 5 = s.fdc.headLoad ∧ b.getLsbD 4 = false ∧
        b.getLsbD 1 = decide (s.now.toNat % Config.cfg.indexPeriod < Config.cfg.indexWidth) ∧
        (∀ (k : Fin 4) (d : Drive), s.fdc.fcur = some k → s.fdc.drive.get k = some d →
          (b.getLsbD 2 = true ↔ d.phys = 0) ∧ (b.getLsbD 6 = true ↔ ∃ i : Image, d.image = some i ∧ i.wp = true))) ∧
      (s.fdc.fmode ≠ .typeI →
        b.getLsbD 6 = false ∧ b.getLsbD 5 = false ∧ b.getLsbD 4 = s.fdc.rnf ∧ b.getLsbD 2 = s.fdc.lostData ∧
        b.getLsbD 1 = s.fdc.drq)) ∧
    (∀ a : Word, (s.slots.at (a.extractLsb' 0 8)).readers.map Entry.handler = [.fdcLines] →
      exec (.portrd a) s =
        .next (s.setResult (.byte (Config.cfg.fdc.linesByte s.fdc.intrq s.fdc.drq 0xFF#8))))

/-- A command byte other than Force-Interrupt written while an operation is in progress is ignored (45_fdc.md R338): the
whole state stays as it was. -/
def Obligations.FdcBusyIgnores : Prop :=
  ∀ (v : Byte) (s : State), s.fdc.fop ≠ .none → v.extractLsb' 4 4 ≠ 0b1101#4 →
    exec (.fdcCmdW v) s = .next (s.setResult .none) ∧ exec (fdcCommandOf v).toInstr s = .next (s.setResult .none)

/-- The seek-family commands with no operation in progress (45_fdc.md R332, R344 to R349): each gives its step count and
track register value to the common start, which completes at once in the fast mode or with no step to make, and else
leaves a Seek in progress with its delay. -/
def Obligations.FdcSeekFamilyStarts : Prop :=
  ∀ (u h v : Bool) (r : BitVec 2) (s : State), s.fdc.fop = .none →
    let start (k : FdcCommand) (n : Int) (t' : Byte) (f : Fdc) : State :=
      let g : Fdc :=
        { f with
          fcmd := k.byte, intrq := false, fopDrive := s.fdc.fcur, fmode := .typeI, headLoad := h, rnf := false }
      let delay := n.natAbs * Config.cfg.stepTicks r
      (s.setFdc
        (if Config.cfg.fdc.fast = true ∨ delay = 0 then seekComplete n t' g
        else { g with fop := .seek, fstart := s.now, fdelay := BitVec.ofNat 64 delay, fpending := (n, t') })).setResult
          .none
    (∀ d : Option Drive, s.fdc.fcur.bind (fun k => s.fdc.drive.get k) = d →
      exec (.fdcRestore h v r) s =
        .next (start (.restore h v r) (match d with | some d => -(d.phys : Int) | none => 0) 0#8 s.fdc)) ∧
    exec (.fdcSeek h v r) s =
      .next (start (.seek h v r) ((s.fdc.fdr.toNat : Int) - s.fdc.ftr.toNat) s.fdc.fdr
        { s.fdc with ftarget := s.fdc.fdr }) ∧
    exec (.fdcStep u h v r) s =
      .next (match s.fdc.fstepDir with
        | .inward => start (.step u h v r) 1 (if u then s.fdc.ftr + 1#8 else s.fdc.ftr) s.fdc
        | .outward => start (.step u h v r) (-1) (if u then s.fdc.ftr - 1#8 else s.fdc.ftr) s.fdc) ∧
    exec (.fdcStepin u h v r) s =
      .next (start (.stepin u h v r) 1 (if u then s.fdc.ftr + 1#8 else s.fdc.ftr)
        { s.fdc with fstepDir := .inward }) ∧
    exec (.fdcStepout u h v r) s =
      .next (start (.stepout u h v r) (-1) (if u then s.fdc.ftr - 1#8 else s.fdc.ftr)
        { s.fdc with fstepDir := .outward })

/-- The end of a seek (45_fdc.md R350): the head of the drive the operation runs on moves and is clamped to the geometry,
the track register takes its value though the clamp stops the head short, no operation is left, INTRQ rises; with no
drive, only the registers change. On a geometry without tracks the head ends at track 0 (log 37). -/
def Obligations.SeekCompletes : Prop :=
  ∀ (n : Int) (t' : Byte) (f : Fdc),
    (∀ (k : Fin 4) (d : Drive), f.fopDrive = some k → f.drive.get k = some d → ∃ p : Nat,
      (p : Int) = max 0 (min ((d.phys : Int) + n) ((d.geom.tracks : Int) - 1)) ∧
      seekComplete n t' f =
        { f with
          drive := f.drive.set k.val (some { d with phys := p }), ftr := t', fop := .none, intrq := true }) ∧
    ((∀ k : Fin 4, f.fopDrive = some k → f.drive.get k = none) →
      seekComplete n t' f = { f with ftr := t', fop := .none, intrq := true })

/-- The seek law (45_fdc.md R397 (b), R346, R351): a SEEK to T from track 0, then a PERIODIC once the delay has elapsed,
leaves no operation and BUSY clear, the track register at T, the head at T or the last track, so at track 0 exactly when
T is 0 on a drive of two tracks or more. -/
def Obligations.SeekLaw : Prop :=
  ∀ (c : Cfg) (h v : Bool) (r : BitVec 2) (s : State) (k j : Fin 4) (d : Drive) (t : Tick), s.fdc.fop = .none →
    s.card.get j = some .fdc → s.fdc.fcur = some k → s.fdc.drive.get k = some d → d.phys = 0 → s.fdc.ftr = 0#8 →
    2 ≤ d.geom.tracks → s.now.toNat + s.fdc.fdr.toNat * c.stepTicks r ≤ t.toNat → s.lastPeriodic.toNat ≤ t.toNat →
    let s1 := (runCommand c (.seek h v r) s).setNow t
    let s2 := periodicOp c t s1
    s2.fdc.fop = .none ∧ s2.fdc.busy = false ∧ s2.fdc.ftr = s.fdc.fdr ∧
      s2.fdc.drive.get k = some { d with phys := min s.fdc.fdr.toNat (d.geom.tracks - 1) } ∧
      (s2.fdc.track0 = true ↔ s.fdc.fdr = 0#8)

/-- READSEC with no operation in progress (45_fdc.md R355): the multiple-sector read is refused (log 4); without a ready drive,
a matching logical track and a sector of the geometry it ends NOTFOUND with an interrupt; else the sector's bytes are
read and a SectorRead begins. -/
def Obligations.FdcReadsec : Prop :=
  ∀ (sv e x y : Bool) (s : State), s.fdc.fop = .none →
    let taken (m : Bool) : Fdc :=
      { s.fdc with
        fcmd := FdcCommand.byte (.readsec m sv e x y), intrq := false, fopDrive := s.fdc.fcur, fmode := .typeII
        rnf := false, lostData := false, drq := false }
    exec (.fdcReadsec true sv e x y) s = .next (s.refuse.setResult .none) ∧
    ((∀ (k : Fin 4) (d : Drive) (i : Image), s.fdc.fcur = some k → s.fdc.drive.get k = some d → d.image = some i →
        ¬(s.fdc.ftr.toNat = d.logical ∧ 1 ≤ s.fdc.fsr.toNat ∧ s.fdc.fsr.toNat ≤ d.geom.sectorsPerTrack)) →
      exec (.fdcReadsec false sv e x y) s =
        .next ((s.setFdc { taken false with rnf := true, intrq := true, fop := .none }).setResult .none)) ∧
    (∀ (k : Fin 4) (d : Drive) (i : Image), s.fdc.fcur = some k → s.fdc.drive.get k = some d → d.image = some i →
      s.fdc.ftr.toNat = d.logical → 1 ≤ s.fdc.fsr.toNat → s.fdc.fsr.toNat ≤ d.geom.sectorsPerTrack →
      exec (.fdcReadsec false sv e x y) s =
        .next ((s.setFdc
          { taken false with
            drive := s.fdc.drive.set k.val (some { d with sector := s.fdc.fsr.toNat })
            fbuf :=
              readBlock d.geom i
                (d.logical * d.geom.sides * d.geom.sectorsPerTrack + s.fdc.fside.val * d.geom.sectorsPerTrack +
                  (s.fdc.fsr.toNat - 1))
            fidx := 0, fstart := s.now, fop := .sectorRead }).setResult .none))

/-- WRITESEC, READTRK, READADDR and WRITETRK with no operation in progress, and FORCEINT in every state (45_fdc.md R362,
R365, R372, R380): the first two are refused (log 4); the next two wait for the index edge on a ready drive and end at once on
another; the last ends any operation. -/
def Obligations.FdcOtherCommands : Prop :=
  ∀ (x3 x2 x1 x0 : Bool) (i : BitVec 4) (s : State),
    let ready : Prop :=
      ∃ (k : Fin 4) (d : Drive) (im : Image), s.fdc.fcur = some k ∧ s.fdc.drive.get k = some d ∧ d.image = some im
    let taken (k : FdcCommand) : Fdc := { s.fdc with fcmd := k.byte, intrq := false, fopDrive := s.fdc.fcur }
    (s.fdc.fop = .none → ∀ m : Bool,
      exec (.fdcWritesec m x3 x2 x1 x0) s = .next (s.refuse.setResult .none) ∧
      exec (.fdcReadtrk x3 x2 x1 x0) s = .next (s.refuse.setResult .none)) ∧
    (s.fdc.fop = .none → ready →
      exec (.fdcReadaddr x3 x2 x1 x0) s =
        .next ((s.setFdc
          { taken (.readaddr x3 x2 x1 x0) with
            fmode := .typeIII, rnf := false, drq := false, fop := .idReadWaitForIndex, flast := s.now }).setResult
              .none) ∧
      exec (.fdcWritetrk x3 x2 x1 x0) s =
        .next ((s.setFdc
          { taken (.writetrk x3 x2 x1 x0) with
            fmode := .typeIII, rnf := false, lostData := false, fop := .trackWriteWaitForIndex, drq := true
            flast := s.now, fwId := [], fwSector := [] }).setResult .none)) ∧
    (s.fdc.fop = .none → ¬ready →
      exec (.fdcReadaddr x3 x2 x1 x0) s =
        .next ((s.setFdc
          { taken (.readaddr x3 x2 x1 x0) with
            fmode := .typeIII, rnf := true, drq := false, intrq := true, fop := .none }).setResult .none) ∧
      exec (.fdcWritetrk x3 x2 x1 x0) s =
        .next ((s.setFdc
          { taken (.writetrk x3 x2 x1 x0) with
            fmode := .typeIII, rnf := false, lostData := false, intrq := true, fop := .none }).setResult .none)) ∧
    exec (.fdcForceint i) s =
      .next ((s.setFdc
        { taken (.forceint i) with
          fop := .none, drq := false, fidx := 0, fbuf := []
          fmode := if s.fdc.fop = .none then .typeI else s.fdc.fmode
          intrq := i.getLsbD 3 }).setResult .none)

/-- What an index edge at tick t and a byte of a track write do (45_fdc.md R363, R366, R368, 30_encoding.md R151). The
edge starts the read of the ID field, with draws for its CRC bytes and for the code of a length that has none (log 11),
starts a track write, and ends one that runs; other operations do not see it. A byte taken raises DRQ and is interpreted:
0xFE opens an ID field of four bytes, 0xFB after one the data of its announced length, which is then the sector. -/
def Obligations.TrackBytes : Prop :=
  (∀ (c : Cfg) (t : Tick) (f : Fdc) (n : Nat),
    (f.fop = .idReadWaitForIndex → ∀ (k : Fin 4) (d : Drive), f.fopDrive = some k → f.drive.get k = some d →
      let code : Byte :=
        if d.geom.sectorLen = 128 then 0#8 else if d.geom.sectorLen = 256 then 1#8
        else if d.geom.sectorLen = 512 then 2#8 else if d.geom.sectorLen = 1024 then 3#8
        else c.freeByte (n + 2)
      fdcEdge c t (f, n) =
        ({ f with
            fbuf := [BitVec.ofNat 8 d.logical, BitVec.ofNat 8 f.fside.val, BitVec.ofNat 8 d.sector, code,
                     c.freeByte n, c.freeByte (n + 1)]
            fidx := 0, fstart := t, fop := .idRead }, n + 3)) ∧
    (f.fop = .trackWriteWaitForIndex →
      fdcEdge c t (f, n) = ({ f with fop := .trackWriteGap, fstart := t, fidx := 0 }, n)) ∧
    (f.fop = .trackWriteGap ∨ f.fop = .trackWriteIdAddr ∨ f.fop = .trackWriteData → f.fstart.toNat < t.toNat →
      fdcEdge c t (f, n) = ({ f with fop := .none, drq := false, intrq := true }, n)) ∧
    (f.fop = .none ∨ f.fop = .seek ∨ f.fop = .idRead ∨ f.fop = .sectorRead → fdcEdge c t (f, n) = (f, n))) ∧
  (∀ (c : Cfg) (f : Fdc),
    let g : Fdc := { f with drq := true, fidx := f.fidx + 1 }
    (f.fop = .trackWriteGap →
      takeByte c f =
        if f.fdr = 0xFE#8 then { g with fop := .trackWriteIdAddr, fwId := [] }
        else if f.fdr = 0xFB#8 ∧ f.fwId.length = 4 then { g with fop := .trackWriteData, fwSector := [] }
        else g) ∧
    (f.fop = .trackWriteIdAddr →
      takeByte c f =
        { g with
          fwId := f.fwId ++ [f.fdr]
          fop := if f.fwId.length + 1 = 4 then .trackWriteGap else .trackWriteIdAddr }) ∧
    (f.fop = .trackWriteData →
      let h : Fdc := { g with fwSector := f.fwSector ++ [f.fdr] }
      takeByte c f =
        if f.fwSector.length + 1 = 128 * 2 ^ ((f.fwId.getD 3 0#8).toNat % 4) then
          { writeSector h with fwId := [], fop := .trackWriteGap }
        else h))

/-- The bytes a periodic callback at tick t passes, in closed form (45_fdc.md R357, R363, R366, R368, R395). A sector or
ID read has released `min L ((t - fstart) / P_BYTE_TICKS)` bytes and the data register holds the last of them; the last
byte ends the operation with INTRQ, and an ID read then takes the logical track into the sector register and moves the
drive's sector counter on (on a geometry without sectors: log 37). A read that began after the previous callback, as
READSEC's may (R355), had released none. A wait for the index ends at the next edge. A track write takes a byte at each
deadline, ending with INTRQ at the first index edge before any byte of that tick. -/
def Obligations.ByteStreaming : Prop :=
  ∀ (c : Cfg) (t : Tick) (f : Fdc) (n : Nat), f.flast.toNat ≤ t.toNat →
    let edge := nextEdge c f.flast.toNat
    (f.fop = .idReadWaitForIndex ∨ f.fop = .trackWriteWaitForIndex →
      fdcPeriodic c t (f, n) =
        if t.toNat < edge then ({ f with flast := t }, n)
        else
          let x := fdcEdge c (BitVec.ofNat 64 edge) (f, n)
          fdcPeriodic c t ({ x.1 with flast := BitVec.ofNat 64 edge }, x.2)) ∧
    (f.fstart.toNat ≤ t.toNat →
      f.fidx = min f.fbuf.length ((f.flast.toNat - f.fstart.toNat) / c.byteTicks) →
      let due := min f.fbuf.length ((t.toNat - f.fstart.toNat) / c.byteTicks)
      let g : Fdc :=
        { f with
          fidx := due, fdr := if f.fidx < due then f.fbuf.getD (due - 1) 0#8 else f.fdr
          drq := f.drq || decide (f.fidx < due), flast := t }
      (f.fop = .sectorRead →
        fdcPeriodic c t (f, n) =
          (if due = f.fbuf.length then { g with fop := .none, intrq := true } else g, n)) ∧
      (f.fop = .idRead → ∀ (k : Fin 4) (d : Drive), f.fopDrive = some k → f.drive.get k = some d →
        fdcPeriodic c t (f, n) =
          (if due = f.fbuf.length then
            { g with
              drive := f.drive.set k.val (some { d with sector := d.sector % d.geom.sectorsPerTrack + 1 })
              fsr := BitVec.ofNat 8 d.logical, fop := .none, intrq := true }
          else g, n))) ∧
    (f.fop = .trackWriteGap ∨ f.fop = .trackWriteIdAddr ∨ f.fop = .trackWriteData →
      f.fstart.toNat ≤ f.flast.toNat → f.fidx = (f.flast.toNat - f.fstart.toNat) / c.byteTicks →
      let after (k : Nat) : Fdc := Nat.iterate (takeByte c) (k - f.fidx) f
      fdcPeriodic c t (f, n) =
        if t.toNat < edge then ({ after ((t.toNat - f.fstart.toNat) / c.byteTicks) with flast := t }, n)
        else
          ({ after ((edge - 1 - f.fstart.toNat) / c.byteTicks) with
              fop := .none, drq := false, intrq := true, flast := t }, n))

/-- The sector a track write has collected (45_fdc.md R367, 30_encoding.md R160): it becomes its block's contents and
every other block keeps its own; a protected image, a sector number or a length outside the geometry drops it. A block
the image does not hold is dropped too (log 24). -/
def Obligations.WriteSectorStores : Prop :=
  ∀ (f : Fdc) (k : Fin 4) (d : Drive) (i : Image), f.fopDrive = some k → f.drive.get k = some d → d.image = some i →
    let q := (f.fwId.getD 2 0#8).toNat
    let block :=
      d.logical * d.geom.sides * d.geom.sectorsPerTrack + f.fside.val * d.geom.sectorsPerTrack + (q - 1)
    if i.wp = false ∧ 1 ≤ q ∧ q ≤ d.geom.sectorsPerTrack ∧ f.fwSector.length = d.geom.sectorLen ∧
        (block + 1) * d.geom.sectorLen ≤ i.bytes.length then
      ∃ i' : Image, writeSector f = { f with drive := f.drive.set k.val (some { d with image := some i' }) } ∧
        i'.wp = i.wp ∧ i'.bytes.length = i.bytes.length ∧ readBlock d.geom i' block = f.fwSector ∧
        (∀ b : Nat, b ≠ block → readBlock d.geom i' b = readBlock d.geom i b)
    else writeSector f = f

/-! ### The backplane -/

/-- INSTALL into an empty slot (46_backplane.md R402, R330, R390): the slot holds the peripheral, handlers are appended only on
the sixteen ports of its window, its Reset once on the first of them, the page table does not change, and no other
peripheral's state does. It starts in its own power-on state; one already installed elsewhere keeps its state (log 25). The
order of the FDC's handlers on a shared port is the model's choice (log 46), and so is that a device's ports depend on the
device and the slot only (log 44). -/
def Obligations.InstallCard : Prop :=
  ∀ (k : Fin 4) (p : Periph) (s : State), s.card.get k = none → ∃ t : State, exec (.install (.slot k) p) s = .next t ∧
    t = { s with
          slots := t.slots, card := s.card.set k.val (some p), fdc := t.fdc, xsnd6 := t.xsnd6, xsnd4 := t.xsnd4
          others := t.others, draws := t.draws, result := .none } ∧
    s.KeepsPeripherals p t ∧ (p ≠ .fdc → t.draws = s.draws) ∧
    s.Started Config.cfg p t ∧
    (∀ n : Byte, (∀ j : Fin 16, n ≠ cardSlot k j) → t.slots.at n = s.slots.at n) ∧
    (∀ n : Byte, (t.slots.at n).resets =
      (s.slots.at n).resets ++
        (if n = cardSlot k 0 then
          [⟨.slot k, match p with | .fdc => Resetter.fdc | .dev d => Resetter.dev d⟩]
        else [])) ∧
    (p = .fdc → ∀ j : Fin 16,
      (t.slots.at (cardSlot k j)).readers =
        (s.slots.at (cardSlot k j)).readers ++
          (if j = 0 then [⟨.slot k, Reader.fdcStatus⟩] else if j = 1 then [⟨.slot k, .fdcTrack⟩]
          else if j = 2 then [⟨.slot k, .fdcSector⟩] else if j = 3 then [⟨.slot k, .fdcData⟩] else []) ++
          (if Config.cfg.fdc.linesPort = some j then [⟨.slot k, .fdcLines⟩] else []) ∧
      (t.slots.at (cardSlot k j)).writers =
        (s.slots.at (cardSlot k j)).writers ++
          (if j = 0 then [⟨.slot k, Writer.fdcCmd⟩] else if j = 1 then [⟨.slot k, .fdcTrack⟩]
          else if j = 2 then [⟨.slot k, .fdcSector⟩] else if j = 3 then [⟨.slot k, .fdcData⟩] else []) ++
          (if j = Config.cfg.fdc.ctrlOffset then [⟨.slot k, .fdcCtrl⟩] else [])) ∧
    (∀ d : Dev, p = .dev d → ∀ j : Fin 16,
      (t.slots.at (cardSlot k j)).readers =
        (s.slots.at (cardSlot k j)).readers ++
          List.replicate ((Config.cfg.dev.readPorts d k).count j) ⟨.slot k, Reader.dev d⟩ ∧
      (t.slots.at (cardSlot k j)).writers =
        (s.slots.at (cardSlot k j)).writers ++
          List.replicate ((Config.cfg.dev.writePorts d k).count j) ⟨.slot k, Writer.dev d⟩)

/-- INSTALL and REMOVE elsewhere (46_backplane.md R402, R404): an occupied slot or socket is refused (log 4); the cartridge
registers no port handler and starts in its own power-on state; a Remove of what is empty changes nothing; the cartridge
leaves its socket empty and its state goes with it, unless it is installed elsewhere too (log 25); its Remove is refused
when any handler list differs after it. The FDC's and a chip's Remove never does there (log 44); a numbered device's does
when it deregisters a handler that stands. No other peripheral's state changes. -/
def Obligations.BackplaneCorners : Prop :=
  (∀ (k : Fin 4) (p q : Periph) (s : State), s.card.get k = some q →
    exec (.install (.slot k) p) s = .next (s.refuse.setResult .none)) ∧
  (∀ (p q : Periph) (s : State), s.cart = some q → exec (.install .cart p) s = .next (s.refuse.setResult .none)) ∧
  (∀ (p : Periph) (s : State), s.cart = none → ∃ t : State, exec (.install .cart p) s = .next t ∧
    t = { s with
          cart := some p, fdc := t.fdc, xsnd6 := t.xsnd6, xsnd4 := t.xsnd4, others := t.others, draws := t.draws
          result := .none } ∧
    s.KeepsPeripherals p t ∧ (p ≠ .fdc → t.draws = s.draws) ∧ s.Started Config.cfg p t) ∧
  (∀ (k : Fin 4) (s : State), s.card.get k = none → exec (.remove (.slot k)) s = .next (s.setResult .none)) ∧
  (∀ s : State, s.cart = none → exec (.remove .cart) s = .next (s.setResult .none)) ∧
  (∀ s : State, exec (.remove .cart) s = .next ((removeOp Config.cfg .cart s).setResult .none)) ∧
  (∀ (c : Cfg) (p : Periph) (s : State), s.cart = some p →
    let t := removeOp c .cart s
    let same := (s.afterRemove c .cart p .host).sameHandlers s.slots
    (same = false → t = s.refuse) ∧
    (same = true →
      t = { s with cart := none, fdc := t.fdc, xsnd6 := t.xsnd6, xsnd4 := t.xsnd4, others := t.others } ∧
      s.KeepsPeripherals p t ∧
      ((∃ k : Fin 4, s.card.get k = some p) →
        t.fdc = s.fdc ∧ t.xsnd6 = s.xsnd6 ∧ t.xsnd4 = s.xsnd4 ∧ t.others = s.others) ∧
      ((∀ k : Fin 4, s.card.get k ≠ some p) → s.Dropped c p t)) ∧
    ((∀ n : Nat, p ≠ .dev (.other n)) → same = true) ∧
    (∀ n : Nat, p = .dev (.other n) →
      let calls := c.dev.removal n .cart (s.core c (.other n)) s.now
      (calls = [] → same = true) ∧
      ((∀ q ∈ calls, deregisters q = true) → (∃ r : RegOp, undoReg r ∈ calls ∧ s.slots.stands r) → same = false)))

/-- Install followed by Remove (46_backplane.md R404, 45_fdc.md R330, 41_portbus.md R202): if the handler lists are then
what they were, every port slot is restored, the slot is empty, and the peripheral's state is dropped unless it is
installed elsewhere (log 25; the host's images stay); if any list differs, the Remove is refused (log 4). The FDC undoes its
registrations, a sound chip too (log 44), and a numbered device whose calls are the deregistrations of what it registered,
in any order; one whose Remove leaves a handler of its own behind, or takes one that others registered (R202), is
refused. The premise that every handler stands in a rightful owner's name is part of the invariant that every step keeps
(10_state.md R76 (e), log 16). -/
def Obligations.InstallRemove : Prop :=
  (∀ (k : Socket) (p : Periph) (s : State),
    exec (.install k p) s = .next ((installOp Config.cfg k p s).setResult .none) ∧
    exec (.remove k) s = .next ((removeOp Config.cfg k s).setResult .none)) ∧
  (∀ (c : Cfg) (k : Fin 4) (p : Periph) (s : State), s.OwnersOk c → s.card.get k = none →
    let t := installOp c (.slot k) p s
    let u := removeOp c (.slot k) t
    let same := (t.afterRemove c (.slot k) p (.slot k)).sameHandlers s.slots
    (same = true →
      u = { s with fdc := u.fdc, xsnd6 := u.xsnd6, xsnd4 := u.xsnd4, others := u.others, draws := t.draws } ∧
      s.KeepsPeripherals p u ∧
      (s.installed p = true → u.fdc = s.fdc ∧ u.xsnd6 = s.xsnd6 ∧ u.xsnd4 = s.xsnd4 ∧ u.others = s.others) ∧
      (s.installed p = false → s.Dropped c p u)) ∧
    (same = false → u = t.refuse) ∧
    ((∀ n : Nat, p ≠ .dev (.other n)) → same = true) ∧
    (∀ n : Nat, p = .dev (.other n) →
      let calls := c.dev.removal n (.slot k) (t.core c (.other n)) t.now
      let regs := installRegs c k p
      (calls.Perm (regs.map undoReg) → same = true) ∧
      ((∀ q ∈ calls, deregisters q = true) →
        (∃ r : RegOp, calls.count (undoReg r) < regs.count r ∨
          regs.count r < calls.count (undoReg r) ∧ s.slots.stands r) →
        same = false)))

/-- PERIODIC (46_backplane.md R410, 44_sound.md R301): out of order it is refused (log 4). Else the sound generator catches
up, and then the callbacks run, of the cards in slots 0 to 3 and of the cartridge: the FDC's (45_fdc.md R395), a chip's
catch-up (44_sound.md R313), another device's own, which at one tick acts once (log 14). Nothing changes but the
generators, the flip-flop, the FDC, the devices and the draws (that a callback changes no handler list is the model's
choice, log 44); with no FDC installed, the FDC and the draws stay; with nothing installed only the catch-up happens. A
second PERIODIC at the same tick changes nothing. -/
def Obligations.PeriodicEffect : Prop :=
  (∀ (t : Tick) (s : State), ¬(t = s.now ∧ s.lastPeriodic.toNat ≤ t.toNat) →
    exec (.periodic t) s = .next (s.refuse.setResult .none)) ∧
  (∀ (t : Tick) (s : State), t = s.now → s.lastPeriodic.toNat ≤ t.toNat →
    let callback (p : Option Periph) (x : State) : State :=
      match p with
      | none => x
      | some .fdc =>
        (x.setFdc (fdcPeriodic Config.cfg t (x.fdc, x.draws)).1).setDraws
          (fdcPeriodic Config.cfg t (x.fdc, x.draws)).2
      | some (.dev .xsnd6) => x.setXsnd6 (chipAdvance Config.cfg .xsnd6 t x.xsnd6)
      | some (.dev .xsnd4) => x.setXsnd4 (chipAdvance Config.cfg .xsnd4 t x.xsnd4)
      | some (.dev (.other n)) =>
        x.setOthers (x.others.put n (Config.cfg.periodic n
          ((x.others.find n).getD (Config.cfg.dev.powerOn (.other n))) t))
    let caught := (s.soundCatchUp Config.cfg t).setLastPeriodic t
    let cards := callback (s.card.get 3) (callback (s.card.get 2) (callback (s.card.get 1) (callback (s.card.get 0) caught)))
    ∃ u : State, exec (.periodic t) s = .next u ∧ u = (callback s.cart cards).setResult .none ∧
      u = { s with
            sound := (s.soundCatchUp Config.cfg t).sound, intFF := (s.soundCatchUp Config.cfg t).intFF
            xsnd6 := u.xsnd6, xsnd4 := u.xsnd4, fdc := u.fdc, others := u.others, draws := u.draws
            lastPeriodic := t, result := .none } ∧
      ((∀ k : Fin 4, s.card.get k ≠ some .fdc) → s.cart ≠ some .fdc → u.fdc = s.fdc ∧ u.draws = s.draws) ∧
      ((∀ k : Fin 4, s.card.get k = none) → s.cart = none →
        u = ((s.soundCatchUp Config.cfg t).setLastPeriodic t).setResult .none) ∧
      exec (.periodic t) u = .next u)

/-! ### Timing -/

/-- The conversions and the tick counter (47_timing.md R430 to R434): floors of exact products, the counter itself, and
the difference modulo 2^64; no state changes. -/
def Obligations.Conversions : Prop :=
  ∀ (n : Nat) (t : Tick) (s : State),
    exec (.mstoticks n) s = .next (s.setResult (.number (n * Config.cfg.clockHz / 1000))) ∧
    exec (.ustoticks n) s = .next (s.setResult (.number (n * Config.cfg.clockHz / 1000000))) ∧
    exec (.tickstoms n) s = .next (s.setResult (.number (n * 1000 / Config.cfg.clockHz))) ∧
    exec .getticks s = .next (s.setResult (.tick s.now)) ∧
    exec (.tickssince t) s = .next (s.setResult (.tick (BitVec.ofInt 64 ((s.now.toNat : Int) - t.toNat))))

/-- Milliseconds to ticks and back never gain, and lose nothing on a clock of whole kilohertz (47_timing.md R433); the
index pulse is high at each of its edges and low just before, and the next edge after a tick is the first multiple of the
period that follows it (R436, R437). -/
def Obligations.TicksAndEdges : Prop :=
  ∀ (c : Cfg) (n : Nat),
    ticksToMs c (msToTicks c n) ≤ n ∧ (c.clockHz % 1000 = 0 → ticksToMs c (msToTicks c n) = n) ∧
    n < nextEdge c n ∧ nextEdge c n % c.indexPeriod = 0 ∧
    (∀ m : Nat, n < m → m % c.indexPeriod = 0 → nextEdge c n ≤ m) ∧
    (nextEdge c n < 2 ^ 64 →
      indexLevel c (BitVec.ofNat 64 (nextEdge c n)) = true ∧
      indexLevel c (BitVec.ofNat 64 (nextEdge c n - 1)) = false)
end

