-- ==== Sys2Proof/Laws/Decode.lean ====
section
/-! SUPPORT. The laws of the operand readers: each reads back what its encoder wrote, and leaves the bytes after it. -/

namespace Sys2Proof

/-! ### Composition -/

@[simp] theorem Parse.ret_apply {α : Type} (x : α) (l : List Byte) : Parse.ret x l = .ok (x, l) := rfl

/-- A reader that succeeds hands its value and the rest to the next one. -/
theorem Parse.andThen_ok {α β : Type} {p : Parse α} {l r : List Byte} {x : α} (f : α → Parse β)
    (h : p l = .ok (x, r)) : p.andThen f l = f x r := by simp only [Parse.andThen, h]

@[simp] theorem parseByte_cons (b : Byte) (l : List Byte) : parseByte (b :: l) = .ok (b, l) := rfl

/-- After one byte comes what the next reader makes of the rest. -/
@[simp] theorem Parse.andThen_byte {β : Type} (f : Byte → Parse β) (b : Byte) (l : List Byte) :
    parseByte.andThen f (b :: l) = f b l := rfl

/-! ### Words, ticks, numbers -/

/-- A 16-bit value from its two bytes. -/
theorem parseWord_encode (a : Word) (l : List Byte) : parseWord (encodeWord a ++ l) = .ok (a, l) := by
  have h : a.extractLsb' 8 8 ++ a.extractLsb' 0 8 = a := by
    apply BitVec.eq_of_getLsbD_eq
    intro i hi
    grind
  simp [parseWord, encodeWord, h]

/-- A tick from its eight bytes. -/
theorem parseTick_encode (t : Tick) (l : List Byte) : parseTick (encodeTick t ++ l) = .ok (t, l) := by
  have h : t.extractLsb' 48 16 ++ t.extractLsb' 32 16 ++ t.extractLsb' 16 16 ++ t.extractLsb' 0 16 = t := by
    apply BitVec.eq_of_getLsbD_eq
    intro i hi
    grind
  simp only [encodeTick, List.append_assoc, parseTick]
  rw [Parse.andThen_ok _ (parseWord_encode _ _), Parse.andThen_ok _ (parseWord_encode _ _),
    Parse.andThen_ok _ (parseWord_encode _ _), Parse.andThen_ok _ (parseWord_encode _ _), Parse.ret_apply, h]

/-- A Nat from its digits, when the fuel is enough for them. -/
theorem parseNat_encodeFuel (f n : Nat) (h : n < 128 * 2 ^ f) (l : List Byte) :
    parseNat (encodeNatFuel f n ++ l) = .ok (n, l) := by
  induction f generalizing n with
  | zero =>
    have hn : (BitVec.ofNat 8 (n % 128)).toNat = n := by simp; omega
    simp [encodeNatFuel, parseNat, hn]; omega
  | succ f ih =>
    simp only [encodeNatFuel]
    split
    · have hn : (BitVec.ofNat 8 n).toNat = n := by simp; omega
      simp [parseNat, hn]; omega
    · have hn : (BitVec.ofNat 8 (n % 128 + 128)).toNat = n % 128 + 128 := by simp; omega
      rw [List.cons_append, parseNat, if_neg (by omega), ih _ (by rw [Nat.pow_succ] at h; omega), hn]
      simp only [Except.ok.injEq, Prod.mk.injEq, and_true]
      omega

/-- A Nat from its bytes. -/
theorem parseNat_encode (n : Nat) (l : List Byte) : parseNat (encodeNat n ++ l) = .ok (n, l) :=
  parseNat_encodeFuel n n (by have := Nat.lt_two_pow_self (n := n); omega) l

@[simp] theorem unfoldInt_foldInt (i : Int) : unfoldInt (foldInt i) = i := by
  cases i with
  | ofNat n => simp [foldInt, unfoldInt]
  | negSucc n => simp [foldInt, unfoldInt]; omega

/-- An integer from its bytes. -/
theorem parseInt_encode (i : Int) (l : List Byte) : parseInt (encodeNat (foldInt i) ++ l) = .ok (i, l) := by
  rw [parseInt, Parse.andThen_ok _ (parseNat_encode _ _), Parse.ret_apply, unfoldInt_foldInt]

/-- A small number from its byte. -/
theorem parseFin_encode {n : Nat} (hn : n ≤ 256) (i : Fin n) (l : List Byte) :
    parseFin n (encodeFin i ++ l) = .ok (i, l) := by
  have hi := i.isLt
  have h : (BitVec.ofNat 8 i.val).toNat = i.val := by simp; omega
  simp [parseFin, encodeFin, h]

/-- A list from the bytes of its elements, when each element is read back from its own. -/
theorem parseMany_encode {α : Type} {p : Parse α} {enc : α → List Byte} (h : ∀ x l, p (enc x ++ l) = .ok (x, l))
    (xs : List α) (l : List Byte) : parseMany p xs.length (xs.flatMap enc ++ l) = .ok (xs, l) := by
  induction xs with
  | nil => rfl
  | cons x xs ih =>
    rw [List.flatMap_cons, List.append_assoc, List.length_cons, parseMany, Parse.andThen_ok _ (h _ _),
      Parse.andThen_ok _ ih, Parse.ret_apply]

/-- A sound buffer from its bytes. -/
theorem parseBuffer_encode (b : List (Int × Int)) (l : List Byte) : parseBuffer (encodeBuffer b ++ l) = .ok (b, l) := by
  rw [parseBuffer, encodeBuffer, List.append_assoc, Parse.andThen_ok _ (parseNat_encode _ _)]
  refine parseMany_encode (fun x l => ?_) b l
  rw [List.append_assoc, Parse.andThen_ok _ (parseInt_encode _ _), Parse.andThen_ok _ (parseInt_encode _ _),
    Parse.ret_apply]

/-! ### Names -/

/-- A device from its bytes. -/
theorem parseDev_encode (d : Dev) (l : List Byte) : parseDev (encodeDev d ++ l) = .ok (d, l) := by
  cases d with
  | xsnd6 => rfl
  | xsnd4 => rfl
  | other n => exact Parse.andThen_ok _ (parseNat_encode n l)

/-- A peripheral from its bytes. -/
theorem parsePeriph_encode (p : Periph) (l : List Byte) : parsePeriph (encodePeriph p ++ l) = .ok (p, l) := by
  cases p with
  | fdc => rfl
  | dev d => exact Parse.andThen_ok _ (parseDev_encode d l)

/-- A socket from its byte. -/
theorem parseSocket_encode (k : Socket) (l : List Byte) : parseSocket (encodeSocket k ++ l) = .ok (k, l) := by
  cases k with
  | slot k => match k with
    | 0 => rfl
    | 1 => rfl
    | 2 => rfl
    | 3 => rfl
  | cart => rfl

/-- A debug store from its byte. -/
theorem parseStore_encode (d : DbgStore) (l : List Byte) : parseStore (encodeStore d ++ l) = .ok (d, l) := by
  cases d with
  | card k => match k with
    | 0 => rfl
    | 1 => rfl
    | 2 => rfl
    | 3 => rfl
  | _ => rfl

/-- A sound generator from its byte. -/
theorem parseGen_encode (g : Gen) (l : List Byte) : parseGen (encodeGen g ++ l) = .ok (g, l) := by cases g <;> rfl

/-- A reader's identity from its bytes. -/
theorem parseReader_encode (h : Reader) (l : List Byte) : parseReader (encodeReader h ++ l) = .ok (h, l) := by
  cases h with
  | dev d => exact Parse.andThen_ok _ (parseDev_encode d l)
  | ext n => exact Parse.andThen_ok _ (parseNat_encode n l)
  | _ => rfl

/-- A writer's identity from its bytes. -/
theorem parseWriter_encode (h : Writer) (l : List Byte) : parseWriter (encodeWriter h ++ l) = .ok (h, l) := by
  cases h with
  | dev d => exact Parse.andThen_ok _ (parseDev_encode d l)
  | ext n => exact Parse.andThen_ok _ (parseNat_encode n l)
  | pal i => exact Parse.andThen_ok _ (parseFin_encode (by omega) i l)
  | _ => rfl

/-- A reset handler's identity from its bytes. -/
theorem parseResetter_encode (h : Resetter) (l : List Byte) : parseResetter (encodeResetter h ++ l) = .ok (h, l) := by
  cases h with
  | dev d => exact Parse.andThen_ok _ (parseDev_encode d l)
  | ext n => exact Parse.andThen_ok _ (parseNat_encode n l)
  | _ => rfl

/-! ### The port map and the command byte -/

/-- Every command byte matches a row of 30_encoding.md R146. -/
theorem cmdRows_cover : ∀ b : Byte, cmdRows.any (fun r => b &&& r.mask == r.pattern) = true := by decide +kernel

/-- No command byte matches two rows of R146. -/
theorem cmdRows_disjoint :
    ∀ b : Byte, (cmdRows.filter fun r => b &&& r.mask == r.pattern).length ≤ 1 := by decide +kernel

/-- The slot of a card window's offset (R143). -/
theorem cardSlot_toNat (w : Fin 4) (k : Fin 16) : (cardSlot w k).toNat = (w.val + 1) * 16 + k.val := by
  have := w.isLt
  have := k.isLt
  simp [cardSlot]; omega

/-- Two window offsets share a slot only when they are the same. -/
theorem cardSlot_inj {w w' : Fin 4} {k k' : Fin 16} (h : cardSlot w k = cardSlot w' k') : w = w' ∧ k = k' := by
  have h' := congrArg BitVec.toNat h
  rw [cardSlot_toNat, cardSlot_toNat] at h'
  have := k.isLt
  have := k'.isLt
  exact ⟨Fin.ext (by omega), Fin.ext (by omega)⟩

end Sys2Proof
end

