-- ==== Sys2Proof/Laws/Fdc.lean ====
section
/-! SUPPORT. The laws of the FDC: what its events can do, and that an FDC with no operation does nothing. -/

namespace Sys2Proof.Machine

/-! ### Events -/

/-- A property that index edges, byte deadlines and the end of a read keep is kept by any number of events. -/
theorem fdcEvents_keeps {P : Fdc × Nat → Prop} (c : Cfg) (t : Nat) (he : ∀ u x, P x → P (fdcEdge c u x))
    (hb : ∀ f n, P (f, n) → P (fdcByte c f, n)) (hd : ∀ f n, P (f, n) → P (streamDone f, n)) (k cur : Nat)
    (x : Fdc × Nat) (hx : P x) : P (fdcEvents c t k cur x) := by
  induction k generalizing cur x with
  | zero => exact hd _ _ hx
  | succ k ih =>
    simp only [fdcEvents]
    split
    · exact ih _ _ (hb _ _ (hd _ _ hx))
    · split
      · exact ih _ _ (he _ _ (hd _ _ hx))
      · exact hd _ _ hx

/-- A property that the seek check, the events and the callback tick keep is kept by the callback. -/
theorem fdcPeriodic_keeps {P : Fdc × Nat → Prop} (c : Cfg) (t : Tick) (hs : ∀ f n, P (f, n) → P (seekPoll t f, n))
    (he : ∀ u x, P x → P (fdcEdge c u x)) (hb : ∀ f n, P (f, n) → P (fdcByte c f, n))
    (hd : ∀ f n, P (f, n) → P (streamDone f, n)) (hl : ∀ f n, P (f, n) → P ({ f with flast := t }, n))
    (x : Fdc × Nat) (hx : P x) : P (fdcPeriodic c t x) :=
  hl _ _ (fdcEvents_keeps c t.toNat he hb hd _ _ _ (hs _ _ hx))

/-- With no operation in progress the events change nothing. -/
theorem fdcEvents_idle (c : Cfg) (t k cur : Nat) (x : Fdc × Nat) (h : x.1.fop = .none) : fdcEvents c t k cur x = x := by
  have hd : streamDone x.1 = x.1 := by simp [streamDone, h]
  have hs : x.1.streaming = false := by simp [Fdc.streaming, h]
  have he : ∀ u, fdcEdge c u x = x := by intro u; simp [fdcEdge, h]
  induction k generalizing cur with
  | zero => rw [fdcEvents, hd]
  | succ k ih =>
    rw [fdcEvents]
    simp only [hd, hs, Bool.false_and]
    split
    · contradiction
    · split
      · rw [he, ih]
      · rfl

/-! ### Seeks -/

/-- The end of a seek leaves no operation in progress. -/
@[simp] theorem seekComplete_fop (n : Int) (t' : Byte) (f : Fdc) : (seekComplete n t' f).fop = .none := rfl

/-- The end of a seek sets the track register. -/
@[simp] theorem seekComplete_ftr (n : Int) (t' : Byte) (f : Fdc) : (seekComplete n t' f).ftr = t' := rfl

/-- A step ends on a track of the geometry. -/
theorem Drive.step_le (n : Int) (d : Drive) : (Drive.step n d).phys ≤ d.geom.tracks - 1 := by
  simp only [Drive.step]
  omega

end Sys2Proof.Machine
end

