-- ==== Sys2Proof/Laws/State.lean ====
section
/-! SUPPORT. One lemma per field of the state and named update: which field the update writes, and that every other
field keeps its value. -/

namespace Sys2Proof.Machine

/-! ### `State.setMem` -/

@[simp] theorem State.setMem_mem (s : State) (x : Memory) : (s.setMem x).mem = x := rfl
@[simp] theorem State.setMem_sysRom (s : State) (x : Memory) : (s.setMem x).sysRom = s.sysRom := rfl
@[simp] theorem State.setMem_extRom (s : State) (x : Memory) : (s.setMem x).extRom = s.extRom := rfl
@[simp] theorem State.setMem_paging (s : State) (x : Memory) : (s.setMem x).paging = s.paging := rfl
@[simp] theorem State.setMem_slots (s : State) (x : Memory) : (s.setMem x).slots = s.slots := rfl
@[simp] theorem State.setMem_intFF (s : State) (x : Memory) : (s.setMem x).intFF = s.intFF := rfl
@[simp] theorem State.setMem_video (s : State) (x : Memory) : (s.setMem x).video = s.video := rfl
@[simp] theorem State.setMem_sound (s : State) (x : Memory) : (s.setMem x).sound = s.sound := rfl
@[simp] theorem State.setMem_xsnd6 (s : State) (x : Memory) : (s.setMem x).xsnd6 = s.xsnd6 := rfl
@[simp] theorem State.setMem_xsnd4 (s : State) (x : Memory) : (s.setMem x).xsnd4 = s.xsnd4 := rfl
@[simp] theorem State.setMem_fdc (s : State) (x : Memory) : (s.setMem x).fdc = s.fdc := rfl
@[simp] theorem State.setMem_card (s : State) (x : Memory) : (s.setMem x).card = s.card := rfl
@[simp] theorem State.setMem_cart (s : State) (x : Memory) : (s.setMem x).cart = s.cart := rfl
@[simp] theorem State.setMem_others (s : State) (x : Memory) : (s.setMem x).others = s.others := rfl
@[simp] theorem State.setMem_exts (s : State) (x : Memory) : (s.setMem x).exts = s.exts := rfl
@[simp] theorem State.setMem_now (s : State) (x : Memory) : (s.setMem x).now = s.now := rfl
@[simp] theorem State.setMem_lastPeriodic (s : State) (x : Memory) : (s.setMem x).lastPeriodic = s.lastPeriodic := rfl
@[simp] theorem State.setMem_kbd (s : State) (x : Memory) : (s.setMem x).kbd = s.kbd := rfl
@[simp] theorem State.setMem_calls (s : State) (x : Memory) : (s.setMem x).calls = s.calls := rfl
@[simp] theorem State.setMem_frameOut (s : State) (x : Memory) : (s.setMem x).frameOut = s.frameOut := rfl
@[simp] theorem State.setMem_audioOut (s : State) (x : Memory) : (s.setMem x).audioOut = s.audioOut := rfl
@[simp] theorem State.setMem_refused (s : State) (x : Memory) : (s.setMem x).refused = s.refused := rfl
@[simp] theorem State.setMem_result (s : State) (x : Memory) : (s.setMem x).result = s.result := rfl
@[simp] theorem State.setMem_draws (s : State) (x : Memory) : (s.setMem x).draws = s.draws := rfl

/-! ### `State.setPaging` -/

@[simp] theorem State.setPaging_mem (s : State) (x : Paging) : (s.setPaging x).mem = s.mem := rfl
@[simp] theorem State.setPaging_sysRom (s : State) (x : Paging) : (s.setPaging x).sysRom = s.sysRom := rfl
@[simp] theorem State.setPaging_extRom (s : State) (x : Paging) : (s.setPaging x).extRom = s.extRom := rfl
@[simp] theorem State.setPaging_paging (s : State) (x : Paging) : (s.setPaging x).paging = x := rfl
@[simp] theorem State.setPaging_slots (s : State) (x : Paging) : (s.setPaging x).slots = s.slots := rfl
@[simp] theorem State.setPaging_intFF (s : State) (x : Paging) : (s.setPaging x).intFF = s.intFF := rfl
@[simp] theorem State.setPaging_video (s : State) (x : Paging) : (s.setPaging x).video = s.video := rfl
@[simp] theorem State.setPaging_sound (s : State) (x : Paging) : (s.setPaging x).sound = s.sound := rfl
@[simp] theorem State.setPaging_xsnd6 (s : State) (x : Paging) : (s.setPaging x).xsnd6 = s.xsnd6 := rfl
@[simp] theorem State.setPaging_xsnd4 (s : State) (x : Paging) : (s.setPaging x).xsnd4 = s.xsnd4 := rfl
@[simp] theorem State.setPaging_fdc (s : State) (x : Paging) : (s.setPaging x).fdc = s.fdc := rfl
@[simp] theorem State.setPaging_card (s : State) (x : Paging) : (s.setPaging x).card = s.card := rfl
@[simp] theorem State.setPaging_cart (s : State) (x : Paging) : (s.setPaging x).cart = s.cart := rfl
@[simp] theorem State.setPaging_others (s : State) (x : Paging) : (s.setPaging x).others = s.others := rfl
@[simp] theorem State.setPaging_exts (s : State) (x : Paging) : (s.setPaging x).exts = s.exts := rfl
@[simp] theorem State.setPaging_now (s : State) (x : Paging) : (s.setPaging x).now = s.now := rfl
@[simp] theorem State.setPaging_lastPeriodic (s : State) (x : Paging) : (s.setPaging x).lastPeriodic = s.lastPeriodic := rfl
@[simp] theorem State.setPaging_kbd (s : State) (x : Paging) : (s.setPaging x).kbd = s.kbd := rfl
@[simp] theorem State.setPaging_calls (s : State) (x : Paging) : (s.setPaging x).calls = s.calls := rfl
@[simp] theorem State.setPaging_frameOut (s : State) (x : Paging) : (s.setPaging x).frameOut = s.frameOut := rfl
@[simp] theorem State.setPaging_audioOut (s : State) (x : Paging) : (s.setPaging x).audioOut = s.audioOut := rfl
@[simp] theorem State.setPaging_refused (s : State) (x : Paging) : (s.setPaging x).refused = s.refused := rfl
@[simp] theorem State.setPaging_result (s : State) (x : Paging) : (s.setPaging x).result = s.result := rfl
@[simp] theorem State.setPaging_draws (s : State) (x : Paging) : (s.setPaging x).draws = s.draws := rfl

/-! ### `State.setSlots` -/

@[simp] theorem State.setSlots_mem (s : State) (x : Slots) : (s.setSlots x).mem = s.mem := rfl
@[simp] theorem State.setSlots_sysRom (s : State) (x : Slots) : (s.setSlots x).sysRom = s.sysRom := rfl
@[simp] theorem State.setSlots_extRom (s : State) (x : Slots) : (s.setSlots x).extRom = s.extRom := rfl
@[simp] theorem State.setSlots_paging (s : State) (x : Slots) : (s.setSlots x).paging = s.paging := rfl
@[simp] theorem State.setSlots_slots (s : State) (x : Slots) : (s.setSlots x).slots = x := rfl
@[simp] theorem State.setSlots_intFF (s : State) (x : Slots) : (s.setSlots x).intFF = s.intFF := rfl
@[simp] theorem State.setSlots_video (s : State) (x : Slots) : (s.setSlots x).video = s.video := rfl
@[simp] theorem State.setSlots_sound (s : State) (x : Slots) : (s.setSlots x).sound = s.sound := rfl
@[simp] theorem State.setSlots_xsnd6 (s : State) (x : Slots) : (s.setSlots x).xsnd6 = s.xsnd6 := rfl
@[simp] theorem State.setSlots_xsnd4 (s : State) (x : Slots) : (s.setSlots x).xsnd4 = s.xsnd4 := rfl
@[simp] theorem State.setSlots_fdc (s : State) (x : Slots) : (s.setSlots x).fdc = s.fdc := rfl
@[simp] theorem State.setSlots_card (s : State) (x : Slots) : (s.setSlots x).card = s.card := rfl
@[simp] theorem State.setSlots_cart (s : State) (x : Slots) : (s.setSlots x).cart = s.cart := rfl
@[simp] theorem State.setSlots_others (s : State) (x : Slots) : (s.setSlots x).others = s.others := rfl
@[simp] theorem State.setSlots_exts (s : State) (x : Slots) : (s.setSlots x).exts = s.exts := rfl
@[simp] theorem State.setSlots_now (s : State) (x : Slots) : (s.setSlots x).now = s.now := rfl
@[simp] theorem State.setSlots_lastPeriodic (s : State) (x : Slots) : (s.setSlots x).lastPeriodic = s.lastPeriodic := rfl
@[simp] theorem State.setSlots_kbd (s : State) (x : Slots) : (s.setSlots x).kbd = s.kbd := rfl
@[simp] theorem State.setSlots_calls (s : State) (x : Slots) : (s.setSlots x).calls = s.calls := rfl
@[simp] theorem State.setSlots_frameOut (s : State) (x : Slots) : (s.setSlots x).frameOut = s.frameOut := rfl
@[simp] theorem State.setSlots_audioOut (s : State) (x : Slots) : (s.setSlots x).audioOut = s.audioOut := rfl
@[simp] theorem State.setSlots_refused (s : State) (x : Slots) : (s.setSlots x).refused = s.refused := rfl
@[simp] theorem State.setSlots_result (s : State) (x : Slots) : (s.setSlots x).result = s.result := rfl
@[simp] theorem State.setSlots_draws (s : State) (x : Slots) : (s.setSlots x).draws = s.draws := rfl

/-! ### `State.setIntFF` -/

@[simp] theorem State.setIntFF_mem (s : State) (x : Bool) : (s.setIntFF x).mem = s.mem := rfl
@[simp] theorem State.setIntFF_sysRom (s : State) (x : Bool) : (s.setIntFF x).sysRom = s.sysRom := rfl
@[simp] theorem State.setIntFF_extRom (s : State) (x : Bool) : (s.setIntFF x).extRom = s.extRom := rfl
@[simp] theorem State.setIntFF_paging (s : State) (x : Bool) : (s.setIntFF x).paging = s.paging := rfl
@[simp] theorem State.setIntFF_slots (s : State) (x : Bool) : (s.setIntFF x).slots = s.slots := rfl
@[simp] theorem State.setIntFF_intFF (s : State) (x : Bool) : (s.setIntFF x).intFF = x := rfl
@[simp] theorem State.setIntFF_video (s : State) (x : Bool) : (s.setIntFF x).video = s.video := rfl
@[simp] theorem State.setIntFF_sound (s : State) (x : Bool) : (s.setIntFF x).sound = s.sound := rfl
@[simp] theorem State.setIntFF_xsnd6 (s : State) (x : Bool) : (s.setIntFF x).xsnd6 = s.xsnd6 := rfl
@[simp] theorem State.setIntFF_xsnd4 (s : State) (x : Bool) : (s.setIntFF x).xsnd4 = s.xsnd4 := rfl
@[simp] theorem State.setIntFF_fdc (s : State) (x : Bool) : (s.setIntFF x).fdc = s.fdc := rfl
@[simp] theorem State.setIntFF_card (s : State) (x : Bool) : (s.setIntFF x).card = s.card := rfl
@[simp] theorem State.setIntFF_cart (s : State) (x : Bool) : (s.setIntFF x).cart = s.cart := rfl
@[simp] theorem State.setIntFF_others (s : State) (x : Bool) : (s.setIntFF x).others = s.others := rfl
@[simp] theorem State.setIntFF_exts (s : State) (x : Bool) : (s.setIntFF x).exts = s.exts := rfl
@[simp] theorem State.setIntFF_now (s : State) (x : Bool) : (s.setIntFF x).now = s.now := rfl
@[simp] theorem State.setIntFF_lastPeriodic (s : State) (x : Bool) : (s.setIntFF x).lastPeriodic = s.lastPeriodic := rfl
@[simp] theorem State.setIntFF_kbd (s : State) (x : Bool) : (s.setIntFF x).kbd = s.kbd := rfl
@[simp] theorem State.setIntFF_calls (s : State) (x : Bool) : (s.setIntFF x).calls = s.calls := rfl
@[simp] theorem State.setIntFF_frameOut (s : State) (x : Bool) : (s.setIntFF x).frameOut = s.frameOut := rfl
@[simp] theorem State.setIntFF_audioOut (s : State) (x : Bool) : (s.setIntFF x).audioOut = s.audioOut := rfl
@[simp] theorem State.setIntFF_refused (s : State) (x : Bool) : (s.setIntFF x).refused = s.refused := rfl
@[simp] theorem State.setIntFF_result (s : State) (x : Bool) : (s.setIntFF x).result = s.result := rfl
@[simp] theorem State.setIntFF_draws (s : State) (x : Bool) : (s.setIntFF x).draws = s.draws := rfl

/-! ### `State.setVideo` -/

@[simp] theorem State.setVideo_mem (s : State) (x : Video) : (s.setVideo x).mem = s.mem := rfl
@[simp] theorem State.setVideo_sysRom (s : State) (x : Video) : (s.setVideo x).sysRom = s.sysRom := rfl
@[simp] theorem State.setVideo_extRom (s : State) (x : Video) : (s.setVideo x).extRom = s.extRom := rfl
@[simp] theorem State.setVideo_paging (s : State) (x : Video) : (s.setVideo x).paging = s.paging := rfl
@[simp] theorem State.setVideo_slots (s : State) (x : Video) : (s.setVideo x).slots = s.slots := rfl
@[simp] theorem State.setVideo_intFF (s : State) (x : Video) : (s.setVideo x).intFF = s.intFF := rfl
@[simp] theorem State.setVideo_video (s : State) (x : Video) : (s.setVideo x).video = x := rfl
@[simp] theorem State.setVideo_sound (s : State) (x : Video) : (s.setVideo x).sound = s.sound := rfl
@[simp] theorem State.setVideo_xsnd6 (s : State) (x : Video) : (s.setVideo x).xsnd6 = s.xsnd6 := rfl
@[simp] theorem State.setVideo_xsnd4 (s : State) (x : Video) : (s.setVideo x).xsnd4 = s.xsnd4 := rfl
@[simp] theorem State.setVideo_fdc (s : State) (x : Video) : (s.setVideo x).fdc = s.fdc := rfl
@[simp] theorem State.setVideo_card (s : State) (x : Video) : (s.setVideo x).card = s.card := rfl
@[simp] theorem State.setVideo_cart (s : State) (x : Video) : (s.setVideo x).cart = s.cart := rfl
@[simp] theorem State.setVideo_others (s : State) (x : Video) : (s.setVideo x).others = s.others := rfl
@[simp] theorem State.setVideo_exts (s : State) (x : Video) : (s.setVideo x).exts = s.exts := rfl
@[simp] theorem State.setVideo_now (s : State) (x : Video) : (s.setVideo x).now = s.now := rfl
@[simp] theorem State.setVideo_lastPeriodic (s : State) (x : Video) : (s.setVideo x).lastPeriodic = s.lastPeriodic := rfl
@[simp] theorem State.setVideo_kbd (s : State) (x : Video) : (s.setVideo x).kbd = s.kbd := rfl
@[simp] theorem State.setVideo_calls (s : State) (x : Video) : (s.setVideo x).calls = s.calls := rfl
@[simp] theorem State.setVideo_frameOut (s : State) (x : Video) : (s.setVideo x).frameOut = s.frameOut := rfl
@[simp] theorem State.setVideo_audioOut (s : State) (x : Video) : (s.setVideo x).audioOut = s.audioOut := rfl
@[simp] theorem State.setVideo_refused (s : State) (x : Video) : (s.setVideo x).refused = s.refused := rfl
@[simp] theorem State.setVideo_result (s : State) (x : Video) : (s.setVideo x).result = s.result := rfl
@[simp] theorem State.setVideo_draws (s : State) (x : Video) : (s.setVideo x).draws = s.draws := rfl

/-! ### `State.setSound` -/

@[simp] theorem State.setSound_mem (s : State) (x : Sound) : (s.setSound x).mem = s.mem := rfl
@[simp] theorem State.setSound_sysRom (s : State) (x : Sound) : (s.setSound x).sysRom = s.sysRom := rfl
@[simp] theorem State.setSound_extRom (s : State) (x : Sound) : (s.setSound x).extRom = s.extRom := rfl
@[simp] theorem State.setSound_paging (s : State) (x : Sound) : (s.setSound x).paging = s.paging := rfl
@[simp] theorem State.setSound_slots (s : State) (x : Sound) : (s.setSound x).slots = s.slots := rfl
@[simp] theorem State.setSound_intFF (s : State) (x : Sound) : (s.setSound x).intFF = s.intFF := rfl
@[simp] theorem State.setSound_video (s : State) (x : Sound) : (s.setSound x).video = s.video := rfl
@[simp] theorem State.setSound_sound (s : State) (x : Sound) : (s.setSound x).sound = x := rfl
@[simp] theorem State.setSound_xsnd6 (s : State) (x : Sound) : (s.setSound x).xsnd6 = s.xsnd6 := rfl
@[simp] theorem State.setSound_xsnd4 (s : State) (x : Sound) : (s.setSound x).xsnd4 = s.xsnd4 := rfl
@[simp] theorem State.setSound_fdc (s : State) (x : Sound) : (s.setSound x).fdc = s.fdc := rfl
@[simp] theorem State.setSound_card (s : State) (x : Sound) : (s.setSound x).card = s.card := rfl
@[simp] theorem State.setSound_cart (s : State) (x : Sound) : (s.setSound x).cart = s.cart := rfl
@[simp] theorem State.setSound_others (s : State) (x : Sound) : (s.setSound x).others = s.others := rfl
@[simp] theorem State.setSound_exts (s : State) (x : Sound) : (s.setSound x).exts = s.exts := rfl
@[simp] theorem State.setSound_now (s : State) (x : Sound) : (s.setSound x).now = s.now := rfl
@[simp] theorem State.setSound_lastPeriodic (s : State) (x : Sound) : (s.setSound x).lastPeriodic = s.lastPeriodic := rfl
@[simp] theorem State.setSound_kbd (s : State) (x : Sound) : (s.setSound x).kbd = s.kbd := rfl
@[simp] theorem State.setSound_calls (s : State) (x : Sound) : (s.setSound x).calls = s.calls := rfl
@[simp] theorem State.setSound_frameOut (s : State) (x : Sound) : (s.setSound x).frameOut = s.frameOut := rfl
@[simp] theorem State.setSound_audioOut (s : State) (x : Sound) : (s.setSound x).audioOut = s.audioOut := rfl
@[simp] theorem State.setSound_refused (s : State) (x : Sound) : (s.setSound x).refused = s.refused := rfl
@[simp] theorem State.setSound_result (s : State) (x : Sound) : (s.setSound x).result = s.result := rfl
@[simp] theorem State.setSound_draws (s : State) (x : Sound) : (s.setSound x).draws = s.draws := rfl

/-! ### `State.setXsnd6` -/

@[simp] theorem State.setXsnd6_mem (s : State) (x : Chip) : (s.setXsnd6 x).mem = s.mem := rfl
@[simp] theorem State.setXsnd6_sysRom (s : State) (x : Chip) : (s.setXsnd6 x).sysRom = s.sysRom := rfl
@[simp] theorem State.setXsnd6_extRom (s : State) (x : Chip) : (s.setXsnd6 x).extRom = s.extRom := rfl
@[simp] theorem State.setXsnd6_paging (s : State) (x : Chip) : (s.setXsnd6 x).paging = s.paging := rfl
@[simp] theorem State.setXsnd6_slots (s : State) (x : Chip) : (s.setXsnd6 x).slots = s.slots := rfl
@[simp] theorem State.setXsnd6_intFF (s : State) (x : Chip) : (s.setXsnd6 x).intFF = s.intFF := rfl
@[simp] theorem State.setXsnd6_video (s : State) (x : Chip) : (s.setXsnd6 x).video = s.video := rfl
@[simp] theorem State.setXsnd6_sound (s : State) (x : Chip) : (s.setXsnd6 x).sound = s.sound := rfl
@[simp] theorem State.setXsnd6_xsnd6 (s : State) (x : Chip) : (s.setXsnd6 x).xsnd6 = x := rfl
@[simp] theorem State.setXsnd6_xsnd4 (s : State) (x : Chip) : (s.setXsnd6 x).xsnd4 = s.xsnd4 := rfl
@[simp] theorem State.setXsnd6_fdc (s : State) (x : Chip) : (s.setXsnd6 x).fdc = s.fdc := rfl
@[simp] theorem State.setXsnd6_card (s : State) (x : Chip) : (s.setXsnd6 x).card = s.card := rfl
@[simp] theorem State.setXsnd6_cart (s : State) (x : Chip) : (s.setXsnd6 x).cart = s.cart := rfl
@[simp] theorem State.setXsnd6_others (s : State) (x : Chip) : (s.setXsnd6 x).others = s.others := rfl
@[simp] theorem State.setXsnd6_exts (s : State) (x : Chip) : (s.setXsnd6 x).exts = s.exts := rfl
@[simp] theorem State.setXsnd6_now (s : State) (x : Chip) : (s.setXsnd6 x).now = s.now := rfl
@[simp] theorem State.setXsnd6_lastPeriodic (s : State) (x : Chip) : (s.setXsnd6 x).lastPeriodic = s.lastPeriodic := rfl
@[simp] theorem State.setXsnd6_kbd (s : State) (x : Chip) : (s.setXsnd6 x).kbd = s.kbd := rfl
@[simp] theorem State.setXsnd6_calls (s : State) (x : Chip) : (s.setXsnd6 x).calls = s.calls := rfl
@[simp] theorem State.setXsnd6_frameOut (s : State) (x : Chip) : (s.setXsnd6 x).frameOut = s.frameOut := rfl
@[simp] theorem State.setXsnd6_audioOut (s : State) (x : Chip) : (s.setXsnd6 x).audioOut = s.audioOut := rfl
@[simp] theorem State.setXsnd6_refused (s : State) (x : Chip) : (s.setXsnd6 x).refused = s.refused := rfl
@[simp] theorem State.setXsnd6_result (s : State) (x : Chip) : (s.setXsnd6 x).result = s.result := rfl
@[simp] theorem State.setXsnd6_draws (s : State) (x : Chip) : (s.setXsnd6 x).draws = s.draws := rfl

/-! ### `State.setXsnd4` -/

@[simp] theorem State.setXsnd4_mem (s : State) (x : Chip) : (s.setXsnd4 x).mem = s.mem := rfl
@[simp] theorem State.setXsnd4_sysRom (s : State) (x : Chip) : (s.setXsnd4 x).sysRom = s.sysRom := rfl
@[simp] theorem State.setXsnd4_extRom (s : State) (x : Chip) : (s.setXsnd4 x).extRom = s.extRom := rfl
@[simp] theorem State.setXsnd4_paging (s : State) (x : Chip) : (s.setXsnd4 x).paging = s.paging := rfl
@[simp] theorem State.setXsnd4_slots (s : State) (x : Chip) : (s.setXsnd4 x).slots = s.slots := rfl
@[simp] theorem State.setXsnd4_intFF (s : State) (x : Chip) : (s.setXsnd4 x).intFF = s.intFF := rfl
@[simp] theorem State.setXsnd4_video (s : State) (x : Chip) : (s.setXsnd4 x).video = s.video := rfl
@[simp] theorem State.setXsnd4_sound (s : State) (x : Chip) : (s.setXsnd4 x).sound = s.sound := rfl
@[simp] theorem State.setXsnd4_xsnd6 (s : State) (x : Chip) : (s.setXsnd4 x).xsnd6 = s.xsnd6 := rfl
@[simp] theorem State.setXsnd4_xsnd4 (s : State) (x : Chip) : (s.setXsnd4 x).xsnd4 = x := rfl
@[simp] theorem State.setXsnd4_fdc (s : State) (x : Chip) : (s.setXsnd4 x).fdc = s.fdc := rfl
@[simp] theorem State.setXsnd4_card (s : State) (x : Chip) : (s.setXsnd4 x).card = s.card := rfl
@[simp] theorem State.setXsnd4_cart (s : State) (x : Chip) : (s.setXsnd4 x).cart = s.cart := rfl
@[simp] theorem State.setXsnd4_others (s : State) (x : Chip) : (s.setXsnd4 x).others = s.others := rfl
@[simp] theorem State.setXsnd4_exts (s : State) (x : Chip) : (s.setXsnd4 x).exts = s.exts := rfl
@[simp] theorem State.setXsnd4_now (s : State) (x : Chip) : (s.setXsnd4 x).now = s.now := rfl
@[simp] theorem State.setXsnd4_lastPeriodic (s : State) (x : Chip) : (s.setXsnd4 x).lastPeriodic = s.lastPeriodic := rfl
@[simp] theorem State.setXsnd4_kbd (s : State) (x : Chip) : (s.setXsnd4 x).kbd = s.kbd := rfl
@[simp] theorem State.setXsnd4_calls (s : State) (x : Chip) : (s.setXsnd4 x).calls = s.calls := rfl
@[simp] theorem State.setXsnd4_frameOut (s : State) (x : Chip) : (s.setXsnd4 x).frameOut = s.frameOut := rfl
@[simp] theorem State.setXsnd4_audioOut (s : State) (x : Chip) : (s.setXsnd4 x).audioOut = s.audioOut := rfl
@[simp] theorem State.setXsnd4_refused (s : State) (x : Chip) : (s.setXsnd4 x).refused = s.refused := rfl
@[simp] theorem State.setXsnd4_result (s : State) (x : Chip) : (s.setXsnd4 x).result = s.result := rfl
@[simp] theorem State.setXsnd4_draws (s : State) (x : Chip) : (s.setXsnd4 x).draws = s.draws := rfl

/-! ### `State.setFdc` -/

@[simp] theorem State.setFdc_mem (s : State) (x : Fdc) : (s.setFdc x).mem = s.mem := rfl
@[simp] theorem State.setFdc_sysRom (s : State) (x : Fdc) : (s.setFdc x).sysRom = s.sysRom := rfl
@[simp] theorem State.setFdc_extRom (s : State) (x : Fdc) : (s.setFdc x).extRom = s.extRom := rfl
@[simp] theorem State.setFdc_paging (s : State) (x : Fdc) : (s.setFdc x).paging = s.paging := rfl
@[simp] theorem State.setFdc_slots (s : State) (x : Fdc) : (s.setFdc x).slots = s.slots := rfl
@[simp] theorem State.setFdc_intFF (s : State) (x : Fdc) : (s.setFdc x).intFF = s.intFF := rfl
@[simp] theorem State.setFdc_video (s : State) (x : Fdc) : (s.setFdc x).video = s.video := rfl
@[simp] theorem State.setFdc_sound (s : State) (x : Fdc) : (s.setFdc x).sound = s.sound := rfl
@[simp] theorem State.setFdc_xsnd6 (s : State) (x : Fdc) : (s.setFdc x).xsnd6 = s.xsnd6 := rfl
@[simp] theorem State.setFdc_xsnd4 (s : State) (x : Fdc) : (s.setFdc x).xsnd4 = s.xsnd4 := rfl
@[simp] theorem State.setFdc_fdc (s : State) (x : Fdc) : (s.setFdc x).fdc = x := rfl
@[simp] theorem State.setFdc_card (s : State) (x : Fdc) : (s.setFdc x).card = s.card := rfl
@[simp] theorem State.setFdc_cart (s : State) (x : Fdc) : (s.setFdc x).cart = s.cart := rfl
@[simp] theorem State.setFdc_others (s : State) (x : Fdc) : (s.setFdc x).others = s.others := rfl
@[simp] theorem State.setFdc_exts (s : State) (x : Fdc) : (s.setFdc x).exts = s.exts := rfl
@[simp] theorem State.setFdc_now (s : State) (x : Fdc) : (s.setFdc x).now = s.now := rfl
@[simp] theorem State.setFdc_lastPeriodic (s : State) (x : Fdc) : (s.setFdc x).lastPeriodic = s.lastPeriodic := rfl
@[simp] theorem State.setFdc_kbd (s : State) (x : Fdc) : (s.setFdc x).kbd = s.kbd := rfl
@[simp] theorem State.setFdc_calls (s : State) (x : Fdc) : (s.setFdc x).calls = s.calls := rfl
@[simp] theorem State.setFdc_frameOut (s : State) (x : Fdc) : (s.setFdc x).frameOut = s.frameOut := rfl
@[simp] theorem State.setFdc_audioOut (s : State) (x : Fdc) : (s.setFdc x).audioOut = s.audioOut := rfl
@[simp] theorem State.setFdc_refused (s : State) (x : Fdc) : (s.setFdc x).refused = s.refused := rfl
@[simp] theorem State.setFdc_result (s : State) (x : Fdc) : (s.setFdc x).result = s.result := rfl
@[simp] theorem State.setFdc_draws (s : State) (x : Fdc) : (s.setFdc x).draws = s.draws := rfl

/-! ### `State.setCard` -/

@[simp] theorem State.setCard_mem (s : State) (x : Vector (Option Periph) 4) : (s.setCard x).mem = s.mem := rfl
@[simp] theorem State.setCard_sysRom (s : State) (x : Vector (Option Periph) 4) : (s.setCard x).sysRom = s.sysRom := rfl
@[simp] theorem State.setCard_extRom (s : State) (x : Vector (Option Periph) 4) : (s.setCard x).extRom = s.extRom := rfl
@[simp] theorem State.setCard_paging (s : State) (x : Vector (Option Periph) 4) : (s.setCard x).paging = s.paging := rfl
@[simp] theorem State.setCard_slots (s : State) (x : Vector (Option Periph) 4) : (s.setCard x).slots = s.slots := rfl
@[simp] theorem State.setCard_intFF (s : State) (x : Vector (Option Periph) 4) : (s.setCard x).intFF = s.intFF := rfl
@[simp] theorem State.setCard_video (s : State) (x : Vector (Option Periph) 4) : (s.setCard x).video = s.video := rfl
@[simp] theorem State.setCard_sound (s : State) (x : Vector (Option Periph) 4) : (s.setCard x).sound = s.sound := rfl
@[simp] theorem State.setCard_xsnd6 (s : State) (x : Vector (Option Periph) 4) : (s.setCard x).xsnd6 = s.xsnd6 := rfl
@[simp] theorem State.setCard_xsnd4 (s : State) (x : Vector (Option Periph) 4) : (s.setCard x).xsnd4 = s.xsnd4 := rfl
@[simp] theorem State.setCard_fdc (s : State) (x : Vector (Option Periph) 4) : (s.setCard x).fdc = s.fdc := rfl
@[simp] theorem State.setCard_card (s : State) (x : Vector (Option Periph) 4) : (s.setCard x).card = x := rfl
@[simp] theorem State.setCard_cart (s : State) (x : Vector (Option Periph) 4) : (s.setCard x).cart = s.cart := rfl
@[simp] theorem State.setCard_others (s : State) (x : Vector (Option Periph) 4) : (s.setCard x).others = s.others := rfl
@[simp] theorem State.setCard_exts (s : State) (x : Vector (Option Periph) 4) : (s.setCard x).exts = s.exts := rfl
@[simp] theorem State.setCard_now (s : State) (x : Vector (Option Periph) 4) : (s.setCard x).now = s.now := rfl
@[simp] theorem State.setCard_lastPeriodic (s : State) (x : Vector (Option Periph) 4) : (s.setCard x).lastPeriodic = s.lastPeriodic := rfl
@[simp] theorem State.setCard_kbd (s : State) (x : Vector (Option Periph) 4) : (s.setCard x).kbd = s.kbd := rfl
@[simp] theorem State.setCard_calls (s : State) (x : Vector (Option Periph) 4) : (s.setCard x).calls = s.calls := rfl
@[simp] theorem State.setCard_frameOut (s : State) (x : Vector (Option Periph) 4) : (s.setCard x).frameOut = s.frameOut := rfl
@[simp] theorem State.setCard_audioOut (s : State) (x : Vector (Option Periph) 4) : (s.setCard x).audioOut = s.audioOut := rfl
@[simp] theorem State.setCard_refused (s : State) (x : Vector (Option Periph) 4) : (s.setCard x).refused = s.refused := rfl
@[simp] theorem State.setCard_result (s : State) (x : Vector (Option Periph) 4) : (s.setCard x).result = s.result := rfl
@[simp] theorem State.setCard_draws (s : State) (x : Vector (Option Periph) 4) : (s.setCard x).draws = s.draws := rfl

/-! ### `State.setCart` -/

@[simp] theorem State.setCart_mem (s : State) (x : Option Periph) : (s.setCart x).mem = s.mem := rfl
@[simp] theorem State.setCart_sysRom (s : State) (x : Option Periph) : (s.setCart x).sysRom = s.sysRom := rfl
@[simp] theorem State.setCart_extRom (s : State) (x : Option Periph) : (s.setCart x).extRom = s.extRom := rfl
@[simp] theorem State.setCart_paging (s : State) (x : Option Periph) : (s.setCart x).paging = s.paging := rfl
@[simp] theorem State.setCart_slots (s : State) (x : Option Periph) : (s.setCart x).slots = s.slots := rfl
@[simp] theorem State.setCart_intFF (s : State) (x : Option Periph) : (s.setCart x).intFF = s.intFF := rfl
@[simp] theorem State.setCart_video (s : State) (x : Option Periph) : (s.setCart x).video = s.video := rfl
@[simp] theorem State.setCart_sound (s : State) (x : Option Periph) : (s.setCart x).sound = s.sound := rfl
@[simp] theorem State.setCart_xsnd6 (s : State) (x : Option Periph) : (s.setCart x).xsnd6 = s.xsnd6 := rfl
@[simp] theorem State.setCart_xsnd4 (s : State) (x : Option Periph) : (s.setCart x).xsnd4 = s.xsnd4 := rfl
@[simp] theorem State.setCart_fdc (s : State) (x : Option Periph) : (s.setCart x).fdc = s.fdc := rfl
@[simp] theorem State.setCart_card (s : State) (x : Option Periph) : (s.setCart x).card = s.card := rfl
@[simp] theorem State.setCart_cart (s : State) (x : Option Periph) : (s.setCart x).cart = x := rfl
@[simp] theorem State.setCart_others (s : State) (x : Option Periph) : (s.setCart x).others = s.others := rfl
@[simp] theorem State.setCart_exts (s : State) (x : Option Periph) : (s.setCart x).exts = s.exts := rfl
@[simp] theorem State.setCart_now (s : State) (x : Option Periph) : (s.setCart x).now = s.now := rfl
@[simp] theorem State.setCart_lastPeriodic (s : State) (x : Option Periph) : (s.setCart x).lastPeriodic = s.lastPeriodic := rfl
@[simp] theorem State.setCart_kbd (s : State) (x : Option Periph) : (s.setCart x).kbd = s.kbd := rfl
@[simp] theorem State.setCart_calls (s : State) (x : Option Periph) : (s.setCart x).calls = s.calls := rfl
@[simp] theorem State.setCart_frameOut (s : State) (x : Option Periph) : (s.setCart x).frameOut = s.frameOut := rfl
@[simp] theorem State.setCart_audioOut (s : State) (x : Option Periph) : (s.setCart x).audioOut = s.audioOut := rfl
@[simp] theorem State.setCart_refused (s : State) (x : Option Periph) : (s.setCart x).refused = s.refused := rfl
@[simp] theorem State.setCart_result (s : State) (x : Option Periph) : (s.setCart x).result = s.result := rfl
@[simp] theorem State.setCart_draws (s : State) (x : Option Periph) : (s.setCart x).draws = s.draws := rfl

/-! ### `State.setOthers` -/

@[simp] theorem State.setOthers_mem (s : State) (x : NatMap) : (s.setOthers x).mem = s.mem := rfl
@[simp] theorem State.setOthers_sysRom (s : State) (x : NatMap) : (s.setOthers x).sysRom = s.sysRom := rfl
@[simp] theorem State.setOthers_extRom (s : State) (x : NatMap) : (s.setOthers x).extRom = s.extRom := rfl
@[simp] theorem State.setOthers_paging (s : State) (x : NatMap) : (s.setOthers x).paging = s.paging := rfl
@[simp] theorem State.setOthers_slots (s : State) (x : NatMap) : (s.setOthers x).slots = s.slots := rfl
@[simp] theorem State.setOthers_intFF (s : State) (x : NatMap) : (s.setOthers x).intFF = s.intFF := rfl
@[simp] theorem State.setOthers_video (s : State) (x : NatMap) : (s.setOthers x).video = s.video := rfl
@[simp] theorem State.setOthers_sound (s : State) (x : NatMap) : (s.setOthers x).sound = s.sound := rfl
@[simp] theorem State.setOthers_xsnd6 (s : State) (x : NatMap) : (s.setOthers x).xsnd6 = s.xsnd6 := rfl
@[simp] theorem State.setOthers_xsnd4 (s : State) (x : NatMap) : (s.setOthers x).xsnd4 = s.xsnd4 := rfl
@[simp] theorem State.setOthers_fdc (s : State) (x : NatMap) : (s.setOthers x).fdc = s.fdc := rfl
@[simp] theorem State.setOthers_card (s : State) (x : NatMap) : (s.setOthers x).card = s.card := rfl
@[simp] theorem State.setOthers_cart (s : State) (x : NatMap) : (s.setOthers x).cart = s.cart := rfl
@[simp] theorem State.setOthers_others (s : State) (x : NatMap) : (s.setOthers x).others = x := rfl
@[simp] theorem State.setOthers_exts (s : State) (x : NatMap) : (s.setOthers x).exts = s.exts := rfl
@[simp] theorem State.setOthers_now (s : State) (x : NatMap) : (s.setOthers x).now = s.now := rfl
@[simp] theorem State.setOthers_lastPeriodic (s : State) (x : NatMap) : (s.setOthers x).lastPeriodic = s.lastPeriodic := rfl
@[simp] theorem State.setOthers_kbd (s : State) (x : NatMap) : (s.setOthers x).kbd = s.kbd := rfl
@[simp] theorem State.setOthers_calls (s : State) (x : NatMap) : (s.setOthers x).calls = s.calls := rfl
@[simp] theorem State.setOthers_frameOut (s : State) (x : NatMap) : (s.setOthers x).frameOut = s.frameOut := rfl
@[simp] theorem State.setOthers_audioOut (s : State) (x : NatMap) : (s.setOthers x).audioOut = s.audioOut := rfl
@[simp] theorem State.setOthers_refused (s : State) (x : NatMap) : (s.setOthers x).refused = s.refused := rfl
@[simp] theorem State.setOthers_result (s : State) (x : NatMap) : (s.setOthers x).result = s.result := rfl
@[simp] theorem State.setOthers_draws (s : State) (x : NatMap) : (s.setOthers x).draws = s.draws := rfl

/-! ### `State.setExts` -/

@[simp] theorem State.setExts_mem (s : State) (x : NatMap) : (s.setExts x).mem = s.mem := rfl
@[simp] theorem State.setExts_sysRom (s : State) (x : NatMap) : (s.setExts x).sysRom = s.sysRom := rfl
@[simp] theorem State.setExts_extRom (s : State) (x : NatMap) : (s.setExts x).extRom = s.extRom := rfl
@[simp] theorem State.setExts_paging (s : State) (x : NatMap) : (s.setExts x).paging = s.paging := rfl
@[simp] theorem State.setExts_slots (s : State) (x : NatMap) : (s.setExts x).slots = s.slots := rfl
@[simp] theorem State.setExts_intFF (s : State) (x : NatMap) : (s.setExts x).intFF = s.intFF := rfl
@[simp] theorem State.setExts_video (s : State) (x : NatMap) : (s.setExts x).video = s.video := rfl
@[simp] theorem State.setExts_sound (s : State) (x : NatMap) : (s.setExts x).sound = s.sound := rfl
@[simp] theorem State.setExts_xsnd6 (s : State) (x : NatMap) : (s.setExts x).xsnd6 = s.xsnd6 := rfl
@[simp] theorem State.setExts_xsnd4 (s : State) (x : NatMap) : (s.setExts x).xsnd4 = s.xsnd4 := rfl
@[simp] theorem State.setExts_fdc (s : State) (x : NatMap) : (s.setExts x).fdc = s.fdc := rfl
@[simp] theorem State.setExts_card (s : State) (x : NatMap) : (s.setExts x).card = s.card := rfl
@[simp] theorem State.setExts_cart (s : State) (x : NatMap) : (s.setExts x).cart = s.cart := rfl
@[simp] theorem State.setExts_others (s : State) (x : NatMap) : (s.setExts x).others = s.others := rfl
@[simp] theorem State.setExts_exts (s : State) (x : NatMap) : (s.setExts x).exts = x := rfl
@[simp] theorem State.setExts_now (s : State) (x : NatMap) : (s.setExts x).now = s.now := rfl
@[simp] theorem State.setExts_lastPeriodic (s : State) (x : NatMap) : (s.setExts x).lastPeriodic = s.lastPeriodic := rfl
@[simp] theorem State.setExts_kbd (s : State) (x : NatMap) : (s.setExts x).kbd = s.kbd := rfl
@[simp] theorem State.setExts_calls (s : State) (x : NatMap) : (s.setExts x).calls = s.calls := rfl
@[simp] theorem State.setExts_frameOut (s : State) (x : NatMap) : (s.setExts x).frameOut = s.frameOut := rfl
@[simp] theorem State.setExts_audioOut (s : State) (x : NatMap) : (s.setExts x).audioOut = s.audioOut := rfl
@[simp] theorem State.setExts_refused (s : State) (x : NatMap) : (s.setExts x).refused = s.refused := rfl
@[simp] theorem State.setExts_result (s : State) (x : NatMap) : (s.setExts x).result = s.result := rfl
@[simp] theorem State.setExts_draws (s : State) (x : NatMap) : (s.setExts x).draws = s.draws := rfl

/-! ### `State.setNow` -/

@[simp] theorem State.setNow_mem (s : State) (x : Tick) : (s.setNow x).mem = s.mem := rfl
@[simp] theorem State.setNow_sysRom (s : State) (x : Tick) : (s.setNow x).sysRom = s.sysRom := rfl
@[simp] theorem State.setNow_extRom (s : State) (x : Tick) : (s.setNow x).extRom = s.extRom := rfl
@[simp] theorem State.setNow_paging (s : State) (x : Tick) : (s.setNow x).paging = s.paging := rfl
@[simp] theorem State.setNow_slots (s : State) (x : Tick) : (s.setNow x).slots = s.slots := rfl
@[simp] theorem State.setNow_intFF (s : State) (x : Tick) : (s.setNow x).intFF = s.intFF := rfl
@[simp] theorem State.setNow_video (s : State) (x : Tick) : (s.setNow x).video = s.video := rfl
@[simp] theorem State.setNow_sound (s : State) (x : Tick) : (s.setNow x).sound = s.sound := rfl
@[simp] theorem State.setNow_xsnd6 (s : State) (x : Tick) : (s.setNow x).xsnd6 = s.xsnd6 := rfl
@[simp] theorem State.setNow_xsnd4 (s : State) (x : Tick) : (s.setNow x).xsnd4 = s.xsnd4 := rfl
@[simp] theorem State.setNow_fdc (s : State) (x : Tick) : (s.setNow x).fdc = s.fdc := rfl
@[simp] theorem State.setNow_card (s : State) (x : Tick) : (s.setNow x).card = s.card := rfl
@[simp] theorem State.setNow_cart (s : State) (x : Tick) : (s.setNow x).cart = s.cart := rfl
@[simp] theorem State.setNow_others (s : State) (x : Tick) : (s.setNow x).others = s.others := rfl
@[simp] theorem State.setNow_exts (s : State) (x : Tick) : (s.setNow x).exts = s.exts := rfl
@[simp] theorem State.setNow_now (s : State) (x : Tick) : (s.setNow x).now = x := rfl
@[simp] theorem State.setNow_lastPeriodic (s : State) (x : Tick) : (s.setNow x).lastPeriodic = s.lastPeriodic := rfl
@[simp] theorem State.setNow_kbd (s : State) (x : Tick) : (s.setNow x).kbd = s.kbd := rfl
@[simp] theorem State.setNow_calls (s : State) (x : Tick) : (s.setNow x).calls = s.calls := rfl
@[simp] theorem State.setNow_frameOut (s : State) (x : Tick) : (s.setNow x).frameOut = s.frameOut := rfl
@[simp] theorem State.setNow_audioOut (s : State) (x : Tick) : (s.setNow x).audioOut = s.audioOut := rfl
@[simp] theorem State.setNow_refused (s : State) (x : Tick) : (s.setNow x).refused = s.refused := rfl
@[simp] theorem State.setNow_result (s : State) (x : Tick) : (s.setNow x).result = s.result := rfl
@[simp] theorem State.setNow_draws (s : State) (x : Tick) : (s.setNow x).draws = s.draws := rfl

/-! ### `State.setLastPeriodic` -/

@[simp] theorem State.setLastPeriodic_mem (s : State) (x : Tick) : (s.setLastPeriodic x).mem = s.mem := rfl
@[simp] theorem State.setLastPeriodic_sysRom (s : State) (x : Tick) : (s.setLastPeriodic x).sysRom = s.sysRom := rfl
@[simp] theorem State.setLastPeriodic_extRom (s : State) (x : Tick) : (s.setLastPeriodic x).extRom = s.extRom := rfl
@[simp] theorem State.setLastPeriodic_paging (s : State) (x : Tick) : (s.setLastPeriodic x).paging = s.paging := rfl
@[simp] theorem State.setLastPeriodic_slots (s : State) (x : Tick) : (s.setLastPeriodic x).slots = s.slots := rfl
@[simp] theorem State.setLastPeriodic_intFF (s : State) (x : Tick) : (s.setLastPeriodic x).intFF = s.intFF := rfl
@[simp] theorem State.setLastPeriodic_video (s : State) (x : Tick) : (s.setLastPeriodic x).video = s.video := rfl
@[simp] theorem State.setLastPeriodic_sound (s : State) (x : Tick) : (s.setLastPeriodic x).sound = s.sound := rfl
@[simp] theorem State.setLastPeriodic_xsnd6 (s : State) (x : Tick) : (s.setLastPeriodic x).xsnd6 = s.xsnd6 := rfl
@[simp] theorem State.setLastPeriodic_xsnd4 (s : State) (x : Tick) : (s.setLastPeriodic x).xsnd4 = s.xsnd4 := rfl
@[simp] theorem State.setLastPeriodic_fdc (s : State) (x : Tick) : (s.setLastPeriodic x).fdc = s.fdc := rfl
@[simp] theorem State.setLastPeriodic_card (s : State) (x : Tick) : (s.setLastPeriodic x).card = s.card := rfl
@[simp] theorem State.setLastPeriodic_cart (s : State) (x : Tick) : (s.setLastPeriodic x).cart = s.cart := rfl
@[simp] theorem State.setLastPeriodic_others (s : State) (x : Tick) : (s.setLastPeriodic x).others = s.others := rfl
@[simp] theorem State.setLastPeriodic_exts (s : State) (x : Tick) : (s.setLastPeriodic x).exts = s.exts := rfl
@[simp] theorem State.setLastPeriodic_now (s : State) (x : Tick) : (s.setLastPeriodic x).now = s.now := rfl
@[simp] theorem State.setLastPeriodic_lastPeriodic (s : State) (x : Tick) : (s.setLastPeriodic x).lastPeriodic = x := rfl
@[simp] theorem State.setLastPeriodic_kbd (s : State) (x : Tick) : (s.setLastPeriodic x).kbd = s.kbd := rfl
@[simp] theorem State.setLastPeriodic_calls (s : State) (x : Tick) : (s.setLastPeriodic x).calls = s.calls := rfl
@[simp] theorem State.setLastPeriodic_frameOut (s : State) (x : Tick) : (s.setLastPeriodic x).frameOut = s.frameOut := rfl
@[simp] theorem State.setLastPeriodic_audioOut (s : State) (x : Tick) : (s.setLastPeriodic x).audioOut = s.audioOut := rfl
@[simp] theorem State.setLastPeriodic_refused (s : State) (x : Tick) : (s.setLastPeriodic x).refused = s.refused := rfl
@[simp] theorem State.setLastPeriodic_result (s : State) (x : Tick) : (s.setLastPeriodic x).result = s.result := rfl
@[simp] theorem State.setLastPeriodic_draws (s : State) (x : Tick) : (s.setLastPeriodic x).draws = s.draws := rfl

/-! ### `State.setKbd` -/

@[simp] theorem State.setKbd_mem (s : State) (x : Vector Byte 16) : (s.setKbd x).mem = s.mem := rfl
@[simp] theorem State.setKbd_sysRom (s : State) (x : Vector Byte 16) : (s.setKbd x).sysRom = s.sysRom := rfl
@[simp] theorem State.setKbd_extRom (s : State) (x : Vector Byte 16) : (s.setKbd x).extRom = s.extRom := rfl
@[simp] theorem State.setKbd_paging (s : State) (x : Vector Byte 16) : (s.setKbd x).paging = s.paging := rfl
@[simp] theorem State.setKbd_slots (s : State) (x : Vector Byte 16) : (s.setKbd x).slots = s.slots := rfl
@[simp] theorem State.setKbd_intFF (s : State) (x : Vector Byte 16) : (s.setKbd x).intFF = s.intFF := rfl
@[simp] theorem State.setKbd_video (s : State) (x : Vector Byte 16) : (s.setKbd x).video = s.video := rfl
@[simp] theorem State.setKbd_sound (s : State) (x : Vector Byte 16) : (s.setKbd x).sound = s.sound := rfl
@[simp] theorem State.setKbd_xsnd6 (s : State) (x : Vector Byte 16) : (s.setKbd x).xsnd6 = s.xsnd6 := rfl
@[simp] theorem State.setKbd_xsnd4 (s : State) (x : Vector Byte 16) : (s.setKbd x).xsnd4 = s.xsnd4 := rfl
@[simp] theorem State.setKbd_fdc (s : State) (x : Vector Byte 16) : (s.setKbd x).fdc = s.fdc := rfl
@[simp] theorem State.setKbd_card (s : State) (x : Vector Byte 16) : (s.setKbd x).card = s.card := rfl
@[simp] theorem State.setKbd_cart (s : State) (x : Vector Byte 16) : (s.setKbd x).cart = s.cart := rfl
@[simp] theorem State.setKbd_others (s : State) (x : Vector Byte 16) : (s.setKbd x).others = s.others := rfl
@[simp] theorem State.setKbd_exts (s : State) (x : Vector Byte 16) : (s.setKbd x).exts = s.exts := rfl
@[simp] theorem State.setKbd_now (s : State) (x : Vector Byte 16) : (s.setKbd x).now = s.now := rfl
@[simp] theorem State.setKbd_lastPeriodic (s : State) (x : Vector Byte 16) : (s.setKbd x).lastPeriodic = s.lastPeriodic := rfl
@[simp] theorem State.setKbd_kbd (s : State) (x : Vector Byte 16) : (s.setKbd x).kbd = x := rfl
@[simp] theorem State.setKbd_calls (s : State) (x : Vector Byte 16) : (s.setKbd x).calls = s.calls := rfl
@[simp] theorem State.setKbd_frameOut (s : State) (x : Vector Byte 16) : (s.setKbd x).frameOut = s.frameOut := rfl
@[simp] theorem State.setKbd_audioOut (s : State) (x : Vector Byte 16) : (s.setKbd x).audioOut = s.audioOut := rfl
@[simp] theorem State.setKbd_refused (s : State) (x : Vector Byte 16) : (s.setKbd x).refused = s.refused := rfl
@[simp] theorem State.setKbd_result (s : State) (x : Vector Byte 16) : (s.setKbd x).result = s.result := rfl
@[simp] theorem State.setKbd_draws (s : State) (x : Vector Byte 16) : (s.setKbd x).draws = s.draws := rfl

/-! ### `State.setCalls` -/

@[simp] theorem State.setCalls_mem (s : State) (x : List Call) : (s.setCalls x).mem = s.mem := rfl
@[simp] theorem State.setCalls_sysRom (s : State) (x : List Call) : (s.setCalls x).sysRom = s.sysRom := rfl
@[simp] theorem State.setCalls_extRom (s : State) (x : List Call) : (s.setCalls x).extRom = s.extRom := rfl
@[simp] theorem State.setCalls_paging (s : State) (x : List Call) : (s.setCalls x).paging = s.paging := rfl
@[simp] theorem State.setCalls_slots (s : State) (x : List Call) : (s.setCalls x).slots = s.slots := rfl
@[simp] theorem State.setCalls_intFF (s : State) (x : List Call) : (s.setCalls x).intFF = s.intFF := rfl
@[simp] theorem State.setCalls_video (s : State) (x : List Call) : (s.setCalls x).video = s.video := rfl
@[simp] theorem State.setCalls_sound (s : State) (x : List Call) : (s.setCalls x).sound = s.sound := rfl
@[simp] theorem State.setCalls_xsnd6 (s : State) (x : List Call) : (s.setCalls x).xsnd6 = s.xsnd6 := rfl
@[simp] theorem State.setCalls_xsnd4 (s : State) (x : List Call) : (s.setCalls x).xsnd4 = s.xsnd4 := rfl
@[simp] theorem State.setCalls_fdc (s : State) (x : List Call) : (s.setCalls x).fdc = s.fdc := rfl
@[simp] theorem State.setCalls_card (s : State) (x : List Call) : (s.setCalls x).card = s.card := rfl
@[simp] theorem State.setCalls_cart (s : State) (x : List Call) : (s.setCalls x).cart = s.cart := rfl
@[simp] theorem State.setCalls_others (s : State) (x : List Call) : (s.setCalls x).others = s.others := rfl
@[simp] theorem State.setCalls_exts (s : State) (x : List Call) : (s.setCalls x).exts = s.exts := rfl
@[simp] theorem State.setCalls_now (s : State) (x : List Call) : (s.setCalls x).now = s.now := rfl
@[simp] theorem State.setCalls_lastPeriodic (s : State) (x : List Call) : (s.setCalls x).lastPeriodic = s.lastPeriodic := rfl
@[simp] theorem State.setCalls_kbd (s : State) (x : List Call) : (s.setCalls x).kbd = s.kbd := rfl
@[simp] theorem State.setCalls_calls (s : State) (x : List Call) : (s.setCalls x).calls = x := rfl
@[simp] theorem State.setCalls_frameOut (s : State) (x : List Call) : (s.setCalls x).frameOut = s.frameOut := rfl
@[simp] theorem State.setCalls_audioOut (s : State) (x : List Call) : (s.setCalls x).audioOut = s.audioOut := rfl
@[simp] theorem State.setCalls_refused (s : State) (x : List Call) : (s.setCalls x).refused = s.refused := rfl
@[simp] theorem State.setCalls_result (s : State) (x : List Call) : (s.setCalls x).result = s.result := rfl
@[simp] theorem State.setCalls_draws (s : State) (x : List Call) : (s.setCalls x).draws = s.draws := rfl

/-! ### `State.setFrameOut` -/

@[simp] theorem State.setFrameOut_mem (s : State) (x : List Frame) : (s.setFrameOut x).mem = s.mem := rfl
@[simp] theorem State.setFrameOut_sysRom (s : State) (x : List Frame) : (s.setFrameOut x).sysRom = s.sysRom := rfl
@[simp] theorem State.setFrameOut_extRom (s : State) (x : List Frame) : (s.setFrameOut x).extRom = s.extRom := rfl
@[simp] theorem State.setFrameOut_paging (s : State) (x : List Frame) : (s.setFrameOut x).paging = s.paging := rfl
@[simp] theorem State.setFrameOut_slots (s : State) (x : List Frame) : (s.setFrameOut x).slots = s.slots := rfl
@[simp] theorem State.setFrameOut_intFF (s : State) (x : List Frame) : (s.setFrameOut x).intFF = s.intFF := rfl
@[simp] theorem State.setFrameOut_video (s : State) (x : List Frame) : (s.setFrameOut x).video = s.video := rfl
@[simp] theorem State.setFrameOut_sound (s : State) (x : List Frame) : (s.setFrameOut x).sound = s.sound := rfl
@[simp] theorem State.setFrameOut_xsnd6 (s : State) (x : List Frame) : (s.setFrameOut x).xsnd6 = s.xsnd6 := rfl
@[simp] theorem State.setFrameOut_xsnd4 (s : State) (x : List Frame) : (s.setFrameOut x).xsnd4 = s.xsnd4 := rfl
@[simp] theorem State.setFrameOut_fdc (s : State) (x : List Frame) : (s.setFrameOut x).fdc = s.fdc := rfl
@[simp] theorem State.setFrameOut_card (s : State) (x : List Frame) : (s.setFrameOut x).card = s.card := rfl
@[simp] theorem State.setFrameOut_cart (s : State) (x : List Frame) : (s.setFrameOut x).cart = s.cart := rfl
@[simp] theorem State.setFrameOut_others (s : State) (x : List Frame) : (s.setFrameOut x).others = s.others := rfl
@[simp] theorem State.setFrameOut_exts (s : State) (x : List Frame) : (s.setFrameOut x).exts = s.exts := rfl
@[simp] theorem State.setFrameOut_now (s : State) (x : List Frame) : (s.setFrameOut x).now = s.now := rfl
@[simp] theorem State.setFrameOut_lastPeriodic (s : State) (x : List Frame) : (s.setFrameOut x).lastPeriodic = s.lastPeriodic := rfl
@[simp] theorem State.setFrameOut_kbd (s : State) (x : List Frame) : (s.setFrameOut x).kbd = s.kbd := rfl
@[simp] theorem State.setFrameOut_calls (s : State) (x : List Frame) : (s.setFrameOut x).calls = s.calls := rfl
@[simp] theorem State.setFrameOut_frameOut (s : State) (x : List Frame) : (s.setFrameOut x).frameOut = x := rfl
@[simp] theorem State.setFrameOut_audioOut (s : State) (x : List Frame) : (s.setFrameOut x).audioOut = s.audioOut := rfl
@[simp] theorem State.setFrameOut_refused (s : State) (x : List Frame) : (s.setFrameOut x).refused = s.refused := rfl
@[simp] theorem State.setFrameOut_result (s : State) (x : List Frame) : (s.setFrameOut x).result = s.result := rfl
@[simp] theorem State.setFrameOut_draws (s : State) (x : List Frame) : (s.setFrameOut x).draws = s.draws := rfl

/-! ### `State.setAudioOut` -/

@[simp] theorem State.setAudioOut_mem (s : State) (x : List AudioRange) : (s.setAudioOut x).mem = s.mem := rfl
@[simp] theorem State.setAudioOut_sysRom (s : State) (x : List AudioRange) : (s.setAudioOut x).sysRom = s.sysRom := rfl
@[simp] theorem State.setAudioOut_extRom (s : State) (x : List AudioRange) : (s.setAudioOut x).extRom = s.extRom := rfl
@[simp] theorem State.setAudioOut_paging (s : State) (x : List AudioRange) : (s.setAudioOut x).paging = s.paging := rfl
@[simp] theorem State.setAudioOut_slots (s : State) (x : List AudioRange) : (s.setAudioOut x).slots = s.slots := rfl
@[simp] theorem State.setAudioOut_intFF (s : State) (x : List AudioRange) : (s.setAudioOut x).intFF = s.intFF := rfl
@[simp] theorem State.setAudioOut_video (s : State) (x : List AudioRange) : (s.setAudioOut x).video = s.video := rfl
@[simp] theorem State.setAudioOut_sound (s : State) (x : List AudioRange) : (s.setAudioOut x).sound = s.sound := rfl
@[simp] theorem State.setAudioOut_xsnd6 (s : State) (x : List AudioRange) : (s.setAudioOut x).xsnd6 = s.xsnd6 := rfl
@[simp] theorem State.setAudioOut_xsnd4 (s : State) (x : List AudioRange) : (s.setAudioOut x).xsnd4 = s.xsnd4 := rfl
@[simp] theorem State.setAudioOut_fdc (s : State) (x : List AudioRange) : (s.setAudioOut x).fdc = s.fdc := rfl
@[simp] theorem State.setAudioOut_card (s : State) (x : List AudioRange) : (s.setAudioOut x).card = s.card := rfl
@[simp] theorem State.setAudioOut_cart (s : State) (x : List AudioRange) : (s.setAudioOut x).cart = s.cart := rfl
@[simp] theorem State.setAudioOut_others (s : State) (x : List AudioRange) : (s.setAudioOut x).others = s.others := rfl
@[simp] theorem State.setAudioOut_exts (s : State) (x : List AudioRange) : (s.setAudioOut x).exts = s.exts := rfl
@[simp] theorem State.setAudioOut_now (s : State) (x : List AudioRange) : (s.setAudioOut x).now = s.now := rfl
@[simp] theorem State.setAudioOut_lastPeriodic (s : State) (x : List AudioRange) : (s.setAudioOut x).lastPeriodic = s.lastPeriodic := rfl
@[simp] theorem State.setAudioOut_kbd (s : State) (x : List AudioRange) : (s.setAudioOut x).kbd = s.kbd := rfl
@[simp] theorem State.setAudioOut_calls (s : State) (x : List AudioRange) : (s.setAudioOut x).calls = s.calls := rfl
@[simp] theorem State.setAudioOut_frameOut (s : State) (x : List AudioRange) : (s.setAudioOut x).frameOut = s.frameOut := rfl
@[simp] theorem State.setAudioOut_audioOut (s : State) (x : List AudioRange) : (s.setAudioOut x).audioOut = x := rfl
@[simp] theorem State.setAudioOut_refused (s : State) (x : List AudioRange) : (s.setAudioOut x).refused = s.refused := rfl
@[simp] theorem State.setAudioOut_result (s : State) (x : List AudioRange) : (s.setAudioOut x).result = s.result := rfl
@[simp] theorem State.setAudioOut_draws (s : State) (x : List AudioRange) : (s.setAudioOut x).draws = s.draws := rfl

/-! ### `State.setRefused` -/

@[simp] theorem State.setRefused_mem (s : State) (x : Bool) : (s.setRefused x).mem = s.mem := rfl
@[simp] theorem State.setRefused_sysRom (s : State) (x : Bool) : (s.setRefused x).sysRom = s.sysRom := rfl
@[simp] theorem State.setRefused_extRom (s : State) (x : Bool) : (s.setRefused x).extRom = s.extRom := rfl
@[simp] theorem State.setRefused_paging (s : State) (x : Bool) : (s.setRefused x).paging = s.paging := rfl
@[simp] theorem State.setRefused_slots (s : State) (x : Bool) : (s.setRefused x).slots = s.slots := rfl
@[simp] theorem State.setRefused_intFF (s : State) (x : Bool) : (s.setRefused x).intFF = s.intFF := rfl
@[simp] theorem State.setRefused_video (s : State) (x : Bool) : (s.setRefused x).video = s.video := rfl
@[simp] theorem State.setRefused_sound (s : State) (x : Bool) : (s.setRefused x).sound = s.sound := rfl
@[simp] theorem State.setRefused_xsnd6 (s : State) (x : Bool) : (s.setRefused x).xsnd6 = s.xsnd6 := rfl
@[simp] theorem State.setRefused_xsnd4 (s : State) (x : Bool) : (s.setRefused x).xsnd4 = s.xsnd4 := rfl
@[simp] theorem State.setRefused_fdc (s : State) (x : Bool) : (s.setRefused x).fdc = s.fdc := rfl
@[simp] theorem State.setRefused_card (s : State) (x : Bool) : (s.setRefused x).card = s.card := rfl
@[simp] theorem State.setRefused_cart (s : State) (x : Bool) : (s.setRefused x).cart = s.cart := rfl
@[simp] theorem State.setRefused_others (s : State) (x : Bool) : (s.setRefused x).others = s.others := rfl
@[simp] theorem State.setRefused_exts (s : State) (x : Bool) : (s.setRefused x).exts = s.exts := rfl
@[simp] theorem State.setRefused_now (s : State) (x : Bool) : (s.setRefused x).now = s.now := rfl
@[simp] theorem State.setRefused_lastPeriodic (s : State) (x : Bool) : (s.setRefused x).lastPeriodic = s.lastPeriodic := rfl
@[simp] theorem State.setRefused_kbd (s : State) (x : Bool) : (s.setRefused x).kbd = s.kbd := rfl
@[simp] theorem State.setRefused_calls (s : State) (x : Bool) : (s.setRefused x).calls = s.calls := rfl
@[simp] theorem State.setRefused_frameOut (s : State) (x : Bool) : (s.setRefused x).frameOut = s.frameOut := rfl
@[simp] theorem State.setRefused_audioOut (s : State) (x : Bool) : (s.setRefused x).audioOut = s.audioOut := rfl
@[simp] theorem State.setRefused_refused (s : State) (x : Bool) : (s.setRefused x).refused = x := rfl
@[simp] theorem State.setRefused_result (s : State) (x : Bool) : (s.setRefused x).result = s.result := rfl
@[simp] theorem State.setRefused_draws (s : State) (x : Bool) : (s.setRefused x).draws = s.draws := rfl

/-! ### `State.setResult` -/

@[simp] theorem State.setResult_mem (s : State) (x : Answer) : (s.setResult x).mem = s.mem := rfl
@[simp] theorem State.setResult_sysRom (s : State) (x : Answer) : (s.setResult x).sysRom = s.sysRom := rfl
@[simp] theorem State.setResult_extRom (s : State) (x : Answer) : (s.setResult x).extRom = s.extRom := rfl
@[simp] theorem State.setResult_paging (s : State) (x : Answer) : (s.setResult x).paging = s.paging := rfl
@[simp] theorem State.setResult_slots (s : State) (x : Answer) : (s.setResult x).slots = s.slots := rfl
@[simp] theorem State.setResult_intFF (s : State) (x : Answer) : (s.setResult x).intFF = s.intFF := rfl
@[simp] theorem State.setResult_video (s : State) (x : Answer) : (s.setResult x).video = s.video := rfl
@[simp] theorem State.setResult_sound (s : State) (x : Answer) : (s.setResult x).sound = s.sound := rfl
@[simp] theorem State.setResult_xsnd6 (s : State) (x : Answer) : (s.setResult x).xsnd6 = s.xsnd6 := rfl
@[simp] theorem State.setResult_xsnd4 (s : State) (x : Answer) : (s.setResult x).xsnd4 = s.xsnd4 := rfl
@[simp] theorem State.setResult_fdc (s : State) (x : Answer) : (s.setResult x).fdc = s.fdc := rfl
@[simp] theorem State.setResult_card (s : State) (x : Answer) : (s.setResult x).card = s.card := rfl
@[simp] theorem State.setResult_cart (s : State) (x : Answer) : (s.setResult x).cart = s.cart := rfl
@[simp] theorem State.setResult_others (s : State) (x : Answer) : (s.setResult x).others = s.others := rfl
@[simp] theorem State.setResult_exts (s : State) (x : Answer) : (s.setResult x).exts = s.exts := rfl
@[simp] theorem State.setResult_now (s : State) (x : Answer) : (s.setResult x).now = s.now := rfl
@[simp] theorem State.setResult_lastPeriodic (s : State) (x : Answer) : (s.setResult x).lastPeriodic = s.lastPeriodic := rfl
@[simp] theorem State.setResult_kbd (s : State) (x : Answer) : (s.setResult x).kbd = s.kbd := rfl
@[simp] theorem State.setResult_calls (s : State) (x : Answer) : (s.setResult x).calls = s.calls := rfl
@[simp] theorem State.setResult_frameOut (s : State) (x : Answer) : (s.setResult x).frameOut = s.frameOut := rfl
@[simp] theorem State.setResult_audioOut (s : State) (x : Answer) : (s.setResult x).audioOut = s.audioOut := rfl
@[simp] theorem State.setResult_refused (s : State) (x : Answer) : (s.setResult x).refused = s.refused := rfl
@[simp] theorem State.setResult_result (s : State) (x : Answer) : (s.setResult x).result = x := rfl
@[simp] theorem State.setResult_draws (s : State) (x : Answer) : (s.setResult x).draws = s.draws := rfl

/-! ### `State.setDraws` -/

@[simp] theorem State.setDraws_mem (s : State) (x : Nat) : (s.setDraws x).mem = s.mem := rfl
@[simp] theorem State.setDraws_sysRom (s : State) (x : Nat) : (s.setDraws x).sysRom = s.sysRom := rfl
@[simp] theorem State.setDraws_extRom (s : State) (x : Nat) : (s.setDraws x).extRom = s.extRom := rfl
@[simp] theorem State.setDraws_paging (s : State) (x : Nat) : (s.setDraws x).paging = s.paging := rfl
@[simp] theorem State.setDraws_slots (s : State) (x : Nat) : (s.setDraws x).slots = s.slots := rfl
@[simp] theorem State.setDraws_intFF (s : State) (x : Nat) : (s.setDraws x).intFF = s.intFF := rfl
@[simp] theorem State.setDraws_video (s : State) (x : Nat) : (s.setDraws x).video = s.video := rfl
@[simp] theorem State.setDraws_sound (s : State) (x : Nat) : (s.setDraws x).sound = s.sound := rfl
@[simp] theorem State.setDraws_xsnd6 (s : State) (x : Nat) : (s.setDraws x).xsnd6 = s.xsnd6 := rfl
@[simp] theorem State.setDraws_xsnd4 (s : State) (x : Nat) : (s.setDraws x).xsnd4 = s.xsnd4 := rfl
@[simp] theorem State.setDraws_fdc (s : State) (x : Nat) : (s.setDraws x).fdc = s.fdc := rfl
@[simp] theorem State.setDraws_card (s : State) (x : Nat) : (s.setDraws x).card = s.card := rfl
@[simp] theorem State.setDraws_cart (s : State) (x : Nat) : (s.setDraws x).cart = s.cart := rfl
@[simp] theorem State.setDraws_others (s : State) (x : Nat) : (s.setDraws x).others = s.others := rfl
@[simp] theorem State.setDraws_exts (s : State) (x : Nat) : (s.setDraws x).exts = s.exts := rfl
@[simp] theorem State.setDraws_now (s : State) (x : Nat) : (s.setDraws x).now = s.now := rfl
@[simp] theorem State.setDraws_lastPeriodic (s : State) (x : Nat) : (s.setDraws x).lastPeriodic = s.lastPeriodic := rfl
@[simp] theorem State.setDraws_kbd (s : State) (x : Nat) : (s.setDraws x).kbd = s.kbd := rfl
@[simp] theorem State.setDraws_calls (s : State) (x : Nat) : (s.setDraws x).calls = s.calls := rfl
@[simp] theorem State.setDraws_frameOut (s : State) (x : Nat) : (s.setDraws x).frameOut = s.frameOut := rfl
@[simp] theorem State.setDraws_audioOut (s : State) (x : Nat) : (s.setDraws x).audioOut = s.audioOut := rfl
@[simp] theorem State.setDraws_refused (s : State) (x : Nat) : (s.setDraws x).refused = s.refused := rfl
@[simp] theorem State.setDraws_result (s : State) (x : Nat) : (s.setDraws x).result = s.result := rfl
@[simp] theorem State.setDraws_draws (s : State) (x : Nat) : (s.setDraws x).draws = x := rfl

end Sys2Proof.Machine
end

