-- ==== Sys2Proof/Laws/Handlers.lean ====
section
/-! SUPPORT. What each shared operation over the state can change: one lemma per operation, saying that every field not
named keeps its value; and for the handler chains, that a property every handler keeps is kept by the chain. -/

namespace Sys2Proof.Machine

/-! ### Peripherals -/

/-- A device's state number lives in one of three fields. -/
theorem State.setCore_frame (s : State) (d : Dev) (x : Nat) :
    s.setCore d x =
      { s with
        xsnd6 := (s.setCore d x).xsnd6, xsnd4 := (s.setCore d x).xsnd4, others := (s.setCore d x).others } := by
  cases d <;> rfl

/-- A change of a chip touches the chips only. -/
theorem State.overChip_frame (f : Chip → Chip) (d : Dev) (s : State) :
    s.overChip f d = { s with xsnd6 := (s.overChip f d).xsnd6, xsnd4 := (s.overChip f d).xsnd4 } := by
  cases d <;> rfl

/-! ### Devices -/

/-- An access leaves its mark in device state only. -/
theorem State.accessed_frame (c : Cfg) (d : Dev) (a : Access) (core : Nat) (s : State) :
    s.accessed c d a core =
      { s with
        xsnd6 := (s.accessed c d a core).xsnd6, xsnd4 := (s.accessed c d a core).xsnd4
        others := (s.accessed c d a core).others } := by
  cases d <;> rfl

/-- A device's port read changes device state only. -/
theorem devPortRead_frame (c : Cfg) (d : Dev) (a : Word) (v : Byte) (s : State) :
    (devPortRead c d a v s).2 =
      { s with
        xsnd6 := (devPortRead c d a v s).2.xsnd6, xsnd4 := (devPortRead c d a v s).2.xsnd4
        others := (devPortRead c d a v s).2.others } := by
  cases d <;> rfl

/-- A device's port write changes device state only. -/
theorem devPortWrite_frame (c : Cfg) (d : Dev) (a : Word) (v : Byte) (s : State) :
    devPortWrite c d a v s =
      { s with
        xsnd6 := (devPortWrite c d a v s).xsnd6, xsnd4 := (devPortWrite c d a v s).xsnd4
        others := (devPortWrite c d a v s).others } := by
  cases d <;> rfl

/-- A device's memory read changes device state only. -/
theorem devMemRead_frame (c : Cfg) (d : Dev) (o : BitVec 14) (s : State) :
    (devMemRead c d o s).2 =
      { s with
        xsnd6 := (devMemRead c d o s).2.xsnd6, xsnd4 := (devMemRead c d o s).2.xsnd4
        others := (devMemRead c d o s).2.others } := by
  cases d <;> rfl

/-- A device's memory write changes device state only. -/
theorem devMemWrite_frame (c : Cfg) (d : Dev) (o : BitVec 14) (v : Byte) (s : State) :
    devMemWrite c d o v s =
      { s with
        xsnd6 := (devMemWrite c d o v s).xsnd6, xsnd4 := (devMemWrite c d o v s).xsnd4
        others := (devMemWrite c d o v s).others } := by
  cases d <;> rfl

/-- A device's Reset changes device state only. -/
theorem devReset_frame (c : Cfg) (d : Dev) (s : State) :
    devReset c d s =
      { s with
        xsnd6 := (devReset c d s).xsnd6, xsnd4 := (devReset c d s).xsnd4, others := (devReset c d s).others } := by
  cases d <;> rfl

/-- A device's callback changes device state only. -/
theorem devPeriodic_frame (c : Cfg) (d : Dev) (t : Tick) (s : State) :
    devPeriodic c d t s =
      { s with
        xsnd6 := (devPeriodic c d t s).xsnd6, xsnd4 := (devPeriodic c d t s).xsnd4
        others := (devPeriodic c d t s).others } := by
  cases d <;> rfl

/-! ### Windows -/

/-- A read through a window changes device state, or takes a draw. -/
theorem periphMemRead_frame (c : Cfg) (p : Periph) (o : BitVec 14) (s : State) :
    (periphMemRead c p o s).2 =
      { s with
        xsnd6 := (periphMemRead c p o s).2.xsnd6, xsnd4 := (periphMemRead c p o s).2.xsnd4
        others := (periphMemRead c p o s).2.others, draws := (periphMemRead c p o s).2.draws } := by
  cases p with
  | fdc => rfl
  | dev d => simp only [periphMemRead]; rw [devMemRead_frame]

/-- A write through a window changes device state only. -/
theorem periphMemWrite_frame (c : Cfg) (p : Periph) (o : BitVec 14) (v : Byte) (s : State) :
    periphMemWrite c p o v s =
      { s with
        xsnd6 := (periphMemWrite c p o v s).xsnd6, xsnd4 := (periphMemWrite c p o v s).xsnd4
        others := (periphMemWrite c p o v s).others } := by
  cases p with
  | fdc => rfl
  | dev d => simp only [periphMemWrite]; rw [devMemWrite_frame]

/-- A card's window answers as the peripheral does, or reads 0xFF. -/
theorem cardRead_cases (c : Cfg) (p : Option Periph) (o : BitVec 14) (s : State) :
    cardRead c p o s = (0xFF#8, s) ∨ ∃ q, p = some q ∧ hasMem c q = true ∧ cardRead c p o s = periphMemRead c q o s := by
  cases p with
  | none => exact .inl rfl
  | some q =>
    simp only [cardRead]
    split
    · exact .inr ⟨q, rfl, ‹_›, rfl⟩
    · exact .inl rfl

/-- A card's window takes a write as the peripheral does, or loses it. -/
theorem cardWrite_cases (c : Cfg) (p : Option Periph) (o : BitVec 14) (v : Byte) (s : State) :
    cardWrite c p o v s = s ∨ ∃ q, p = some q ∧ hasMem c q = true ∧ cardWrite c p o v s = periphMemWrite c q o v s := by
  cases p with
  | none => exact .inl rfl
  | some q =>
    simp only [cardWrite]
    split
    · exact .inr ⟨q, rfl, ‹_›, rfl⟩
    · exact .inl rfl

/-! ### Pages -/

/-- A read through a page is no change, or the read of a peripheral's window. -/
theorem tagRead_cases (c : Cfg) (t : Tag) (o : BitVec 14) (s : State) :
    (tagRead c t o s).2 = s ∨ ∃ p, tagRead c t o s = periphMemRead c p o s := by
  have hc : ∀ p, (cardRead c p o s).2 = s ∨ ∃ q, cardRead c p o s = periphMemRead c q o s := by
    intro p
    rcases cardRead_cases c p o s with h | ⟨q, _, _, h⟩
    · exact .inl (by rw [h])
    · exact .inr ⟨q, h⟩
  cases t with
  | ext =>
    simp only [tagRead]
    split
    · exact hc _
    · exact .inl rfl
  | cart =>
    simp only [tagRead, cartRead]
    cases s.cart with
    | none => exact .inl rfl
    | some p => exact .inr ⟨p, rfl⟩
  | card k => exact hc _
  | _ => exact .inl rfl

/-- A read through a page changes device state, or takes a draw. -/
theorem tagRead_frame (c : Cfg) (t : Tag) (o : BitVec 14) (s : State) :
    (tagRead c t o s).2 =
      { s with
        xsnd6 := (tagRead c t o s).2.xsnd6, xsnd4 := (tagRead c t o s).2.xsnd4
        others := (tagRead c t o s).2.others, draws := (tagRead c t o s).2.draws } := by
  rcases tagRead_cases c t o s with h | ⟨p, h⟩
  · rw [h]
  · rw [h]; exact periphMemRead_frame _ _ _ _

/-- A write through a page is a cell of memory written, no change, or the write of a peripheral's window. -/
theorem tagWrite_cases (c : Cfg) (t : Tag) (o : BitVec 14) (v : Byte) (s : State) :
    (∃ k, t = .u k ∧ tagWrite c t o v s = s.setMem (s.mem.write (userCell k o) v)) ∨
      (∃ b, t = .vid b ∧ tagWrite c t o v s = s.setMem (s.mem.write (videoCell b o) v)) ∨
      ((∀ k, t ≠ .u k) ∧ (∀ b, t ≠ .vid b) ∧
        (tagWrite c t o v s = s ∨ ∃ p, tagWrite c t o v s = periphMemWrite c p o v s)) := by
  have hc : ∀ p, cardWrite c p o v s = s ∨ ∃ q, cardWrite c p o v s = periphMemWrite c q o v s := by
    intro p
    rcases cardWrite_cases c p o v s with h | ⟨q, _, _, h⟩
    · exact .inl h
    · exact .inr ⟨q, h⟩
  cases t with
  | u k => exact .inl ⟨k, rfl, rfl⟩
  | vid b => exact .inr (.inl ⟨b, rfl, rfl⟩)
  | sys => exact .inr (.inr ⟨nofun, nofun, .inl rfl⟩)
  | ext =>
    refine .inr (.inr ⟨nofun, nofun, ?_⟩)
    simp only [tagWrite]
    split
    · exact hc _
    · exact .inl rfl
  | cart =>
    refine .inr (.inr ⟨nofun, nofun, ?_⟩)
    simp only [tagWrite, cartWrite]
    cases s.cart with
    | none => exact .inl rfl
    | some p => exact .inr ⟨p, rfl⟩
  | card k => exact .inr (.inr ⟨nofun, nofun, hc _⟩)

/-- A write through a page changes memory or device state. -/
theorem tagWrite_frame (c : Cfg) (t : Tag) (o : BitVec 14) (v : Byte) (s : State) :
    tagWrite c t o v s =
      { s with
        mem := (tagWrite c t o v s).mem, xsnd6 := (tagWrite c t o v s).xsnd6, xsnd4 := (tagWrite c t o v s).xsnd4
        others := (tagWrite c t o v s).others } := by
  rcases tagWrite_cases c t o v s with ⟨k, _, h⟩ | ⟨b, _, h⟩ | ⟨_, _, h | ⟨p, h⟩⟩ <;> rw [h]
  · rfl
  · rfl
  · rw [periphMemWrite_frame]

/-- Memory after a write through a page: one cell at most is written. -/
theorem tagWrite_mem (c : Cfg) (t : Tag) (o : BitVec 14) (v : Byte) (s : State) :
    (tagWrite c t o v s).mem =
      match t with
      | .u k => s.mem.write (userCell k o) v
      | .vid b => s.mem.write (videoCell b o) v
      | .sys | .ext | .cart | .card _ => s.mem := by
  rcases tagWrite_cases c t o v s with ⟨k, rfl, h⟩ | ⟨b, rfl, h⟩ | ⟨hu, hv, h⟩
  · rw [h]; rfl
  · rw [h]; rfl
  · have hm : (tagWrite c t o v s).mem = s.mem := by
      rcases h with h | ⟨p, h⟩
      · rw [h]
      · rw [h, periphMemWrite_frame]
    rw [hm]
    cases t with
    | u k => exact absurd rfl (hu k)
    | vid b => exact absurd rfl (hv b)
    | _ => rfl

/-! ### Sound -/

/-- The sound catch-up touches the generator and the flip-flop only. -/
theorem State.soundCatchUp_frame (c : Cfg) (t : Tick) (s : State) :
    s.soundCatchUp c t =
      { s with sound := (s.soundCatchUp c t).sound, intFF := (s.soundCatchUp c t).intFF } := rfl

/-- A write to a sound register touches the generator and the flip-flop only. -/
theorem soundWrite_frame (c : Cfg) (f : Sound → Sound) (s : State) :
    soundWrite c f s = { s with sound := (soundWrite c f s).sound, intFF := (soundWrite c f s).intFF } := rfl

/-! ### FDC -/

/-- A command byte changes the FDC, or marks the run as refused. -/
theorem fdcRun_frame (k : FdcCommand) (rule : Fdc → Option Fdc) (s : State) :
    fdcRun k rule s = { s with fdc := (fdcRun k rule s).fdc, refused := (fdcRun k rule s).refused } := by
  unfold fdcRun
  split <;> rfl

/-- The rule a command runs. -/
def commandRule (c : Cfg) (now : Tick) : FdcCommand → Fdc → Option Fdc
  | .restore h _ r => fdcRestore c now h r
  | .seek h _ r => fdcSeek c now h r
  | .step u h _ r => fdcStep c now u h r
  | .stepin u h _ r => fdcStepin c now u h r
  | .stepout u h _ r => fdcStepout c now u h r
  | .readsec m _ _ _ _ => fdcReadsec now m
  | .writesec _ _ _ _ _ => fdcWritesec
  | .readaddr _ _ _ _ => fdcReadaddr now
  | .forceint i => fdcForceint i
  | .readtrk _ _ _ _ => fdcReadtrk
  | .writetrk _ _ _ _ => fdcWritetrk now

/-- Every command is run by its rule. -/
theorem runCommand_eq (c : Cfg) (k : FdcCommand) (s : State) :
    runCommand c k s = fdcRun k (commandRule c s.now k) s := by
  cases k <;> rfl

/-- What a command byte does: nothing while busy, the refusal mark, or its rule's effect on the FDC. -/
theorem runCommand_cases (c : Cfg) (k : FdcCommand) (s : State) :
    (s.fdc.busy = true ∧ isForceint k = false ∧ runCommand c k s = s) ∨
      (commandRule c s.now k (commandTaken k s.fdc) = none ∧ runCommand c k s = s.refuse) ∨
      (∃ f, commandRule c s.now k (commandTaken k s.fdc) = some f ∧ runCommand c k s = s.setFdc f) := by
  rw [runCommand_eq, fdcRun, fdcCommand]
  cases hb : (s.fdc.busy && !isForceint k)
  · cases hr : commandRule c s.now k (commandTaken k s.fdc) with
    | none => exact .inr (.inl ⟨rfl, by simp⟩)
    | some f => exact .inr (.inr ⟨f, rfl, by simp⟩)
  · simp only [Bool.and_eq_true, Bool.not_eq_true'] at hb
    exact .inl ⟨hb.1, hb.2, rfl⟩

/-- A command changes the FDC, or marks the run as refused. -/
theorem runCommand_frame (c : Cfg) (k : FdcCommand) (s : State) :
    runCommand c k s = { s with fdc := (runCommand c k s).fdc, refused := (runCommand c k s).refused } := by
  rw [runCommand_eq]; exact fdcRun_frame _ _ _

/-- The FDC's callback changes the FDC and takes draws. -/
theorem State.fdcCallback_frame (c : Cfg) (t : Tick) (s : State) :
    s.fdcCallback c t = { s with fdc := (s.fdcCallback c t).fdc, draws := (s.fdcCallback c t).draws } := rfl

/-! ### Handlers -/

/-- A numbered peripheral's callback does nothing new the second time at a tick (46_backplane.md R410). -/
@[simp] theorem periodic_periodic (c : Cfg) (n x : Nat) (t : Tick) :
    c.periodic n (c.periodic n x t) t = c.periodic n x t := by
  by_cases h : c.dev.periodic n (c.dev.periodic n x t) t = c.dev.periodic n x t <;> simp [Cfg.periodic, h]

/-- What a reader can change. -/
theorem runReader_frame (c : Cfg) (h : Reader) (a : Word) (v : Byte) (s : State) :
    (runReader c h a v s).2 =
      { s with
        slots := (runReader c h a v s).2.slots, intFF := (runReader c h a v s).2.intFF
        sound := (runReader c h a v s).2.sound, xsnd6 := (runReader c h a v s).2.xsnd6
        xsnd4 := (runReader c h a v s).2.xsnd4, fdc := (runReader c h a v s).2.fdc
        others := (runReader c h a v s).2.others, exts := (runReader c h a v s).2.exts
        draws := (runReader c h a v s).2.draws } := by
  cases h with
  | dev d => simp only [runReader]; rw [devPortRead_frame]
  | crtcData =>
    simp only [runReader, crtcDataRead]
    split
    · split <;> rfl
    · rfl
  | _ => rfl

/-- What a writer can change. -/
theorem runWriter_frame (c : Cfg) (h : Writer) (a : Word) (v : Byte) (s : State) :
    runWriter c h a v s =
      { s with
        paging := (runWriter c h a v s).paging, slots := (runWriter c h a v s).slots
        intFF := (runWriter c h a v s).intFF, video := (runWriter c h a v s).video
        sound := (runWriter c h a v s).sound, xsnd6 := (runWriter c h a v s).xsnd6
        xsnd4 := (runWriter c h a v s).xsnd4, fdc := (runWriter c h a v s).fdc
        others := (runWriter c h a v s).others, exts := (runWriter c h a v s).exts
        refused := (runWriter c h a v s).refused } := by
  cases h with
  | dev d => simp only [runWriter]; rw [devPortWrite_frame]
  | crtcData => simp only [runWriter, crtcDataWrite]; split <;> rfl
  | page3 => simp only [runWriter, page3Write]; split <;> rfl
  | fdcCmd => simp only [runWriter]; rw [runCommand_frame]
  | _ => rfl

/-- What a reset handler can change. -/
theorem runReset_frame (c : Cfg) (h : Resetter) (s : State) :
    runReset c h s =
      { s with
        paging := (runReset c h s).paging, slots := (runReset c h s).slots
        xsnd6 := (runReset c h s).xsnd6, xsnd4 := (runReset c h s).xsnd4, fdc := (runReset c h s).fdc
        others := (runReset c h s).others, exts := (runReset c h s).exts } := by
  cases h with
  | dev d => simp only [runReset]; rw [devReset_frame]
  | _ => rfl

/-! ### Chains -/

/-- A property that every reader of a chain keeps is kept by the chain. -/
theorem readChain_keeps {P : State → Prop} (c : Cfg) (a : Word) (l : List (Entry Reader))
    (h : ∀ e ∈ l, ∀ v s, P s → P (runReader c e.handler a v s).2) (x : Byte × State) (hx : P x.2) :
    P (readChain c a l x).2 := by
  induction l generalizing x with
  | nil => exact hx
  | cons e l ih => exact ih (fun e he => h e (.tail _ he)) _ (h e (.head _) _ _ hx)

/-- A property that every writer of a chain keeps is kept by the chain. -/
theorem writeChain_keeps {P : State → Prop} (c : Cfg) (a : Word) (v : Byte) (l : List (Entry Writer))
    (h : ∀ e ∈ l, ∀ s, P s → P (runWriter c e.handler a v s)) (s : State) (hs : P s) : P (writeChain c a v l s) := by
  induction l generalizing s with
  | nil => exact hs
  | cons e l ih => exact ih (fun e he => h e (.tail _ he)) _ (h e (.head _) _ hs)

/-- A property that every reset handler of a chain keeps is kept by the chain. -/
theorem resetChain_keeps {P : State → Prop} (c : Cfg) (l : List (Entry Resetter))
    (h : ∀ e ∈ l, ∀ s, P s → P (runReset c e.handler s)) (s : State) (hs : P s) : P (resetChain c l s) := by
  induction l generalizing s with
  | nil => exact hs
  | cons e l ih => exact ih (fun e he => h e (.tail _ he)) _ (h e (.head _) _ hs)

/-- A chain in two parts runs one after the other. -/
theorem readChain_append (c : Cfg) (a : Word) (l m : List (Entry Reader)) (x : Byte × State) :
    readChain c a (l ++ m) x = readChain c a m (readChain c a l x) := by
  induction l generalizing x with
  | nil => rfl
  | cons e l ih => exact ih _

/-- The same for writers. -/
theorem writeChain_append (c : Cfg) (a : Word) (v : Byte) (l m : List (Entry Writer)) (s : State) :
    writeChain c a v (l ++ m) s = writeChain c a v m (writeChain c a v l s) := by
  induction l generalizing s with
  | nil => rfl
  | cons e l ih => exact ih _

/-- The same for reset handlers. -/
theorem resetChain_append (c : Cfg) (l m : List (Entry Resetter)) (s : State) :
    resetChain c (l ++ m) s = resetChain c m (resetChain c l s) := by
  induction l generalizing s with
  | nil => rfl
  | cons e l ih => exact ih _

/-! ### The backplane -/

/-- A property that the FDC's and the devices' callbacks keep is kept by the callbacks of all peripherals. -/
theorem periodicAll_keeps {P : State → Prop} (c : Cfg) (t : Tick) (hf : ∀ s, P s → P (s.fdcCallback c t))
    (hd : ∀ d s, P s → P (devPeriodic c d t s)) (s : State) (hs : P s) : P (periodicAll c t s) := by
  have h : ∀ p s, P s → P (periphPeriodic c t p s) := by
    intro p s hs
    match p with
    | some .fdc => exact hf s hs
    | some (.dev d) => exact hd d s hs
    | none => exact hs
  exact h _ _ (h _ _ (h _ _ (h _ _ (h _ _ hs))))

/-- A fresh peripheral changes its own state only. -/
theorem freshPeriph_frame (c : Cfg) (p : Periph) (s : State) :
    freshPeriph c p s =
      { s with
        xsnd6 := (freshPeriph c p s).xsnd6, xsnd4 := (freshPeriph c p s).xsnd4, fdc := (freshPeriph c p s).fdc
        others := (freshPeriph c p s).others, draws := (freshPeriph c p s).draws } := by
  unfold freshPeriph
  split
  · rfl
  · split <;> rfl

/-- A removed peripheral takes its own state with it. -/
theorem dropPeriph_frame (c : Cfg) (p : Periph) (s : State) :
    dropPeriph c p s =
      { s with
        xsnd6 := (dropPeriph c p s).xsnd6, xsnd4 := (dropPeriph c p s).xsnd4, fdc := (dropPeriph c p s).fdc
        others := (dropPeriph c p s).others } := by
  unfold dropPeriph
  split
  · rfl
  · split <;> rfl

end Sys2Proof.Machine
end

