-- ==== Sys2Proof/Laws/Memory.lean ====
section
/-! SUPPORT. The laws of memory: what a read after a write gives, and that every operation keeps the canonical form. -/

namespace Sys2Proof.Machine

/-! ### The canonical form -/

@[simp] theorem Memory.wf_nil : Memory.wf [] = true := rfl

/-- The canonical form of a cell before others. -/
theorem Memory.wf_cons (a : Nat) (v : Byte) (m : Memory) :
    Memory.wf ((a, v) :: m) = true ↔ v ≠ Memory.blank ∧ Memory.above a m = true ∧ Memory.wf m = true := by
  simp only [Memory.wf, Bool.and_eq_true, decide_eq_true_eq, and_assoc]

/-- What lies above an address lies above a smaller one. -/
theorem Memory.above_mono {n k : Nat} (h : k ≤ n) {m : Memory} (hm : Memory.above n m = true) :
    Memory.above k m = true := by
  cases m with
  | nil => rfl
  | cons e m => simp only [Memory.above, decide_eq_true_eq] at *; omega

/-- A memory whose cells lie above `n` lists no address up to `n`. -/
theorem Memory.read_above {m : Memory} {n a : Nat} (h : a ≤ n) (hn : Memory.above n m = true) (hm : Memory.wf m = true) :
    Memory.read m a = Memory.blank := by
  induction m generalizing n with
  | nil => rfl
  | cons e m ih =>
    obtain ⟨b, w⟩ := e
    have hb : n < b := by simpa only [Memory.above, decide_eq_true_eq] using hn
    have ⟨_, hab, hwf⟩ := (Memory.wf_cons b w m).1 hm
    rw [Memory.read, if_neg (by omega)]
    exact ih (by omega) hab hwf

/-! ### Writes -/

/-- A write above `n` leaves the memory above `n`. -/
theorem Memory.above_write {m : Memory} {n a : Nat} (v : Byte) (ha : n < a) (hn : Memory.above n m = true)
    (hm : Memory.wf m = true) : Memory.above n (Memory.write m a v) = true := by
  cases m with
  | nil => by_cases hv : v = Memory.blank <;> simp [Memory.write, Memory.above, hv, ha]
  | cons e m =>
    obtain ⟨b, w⟩ := e
    have hb : n < b := by simpa only [Memory.above, decide_eq_true_eq] using hn
    have hab := ((Memory.wf_cons b w m).1 hm).2.1
    simp only [Memory.write]
    split
    · split <;> simp [Memory.above, ha, hb]
    · split
      · split
        · exact Memory.above_mono (by omega) hab
        · simp [Memory.above, ha]
      · simp [Memory.above, hb]

/-- A write keeps the canonical form. -/
theorem Memory.wf_write {m : Memory} (a : Nat) (v : Byte) (hm : Memory.wf m = true) :
    Memory.wf (Memory.write m a v) = true := by
  induction m with
  | nil => by_cases hv : v = Memory.blank <;> simp [Memory.write, Memory.wf, Memory.above, hv]
  | cons e m ih =>
    obtain ⟨b, w⟩ := e
    have ⟨hw, hab, hwf⟩ := (Memory.wf_cons b w m).1 hm
    simp only [Memory.write]
    split
    · rename_i hlt
      split
      · exact hm
      · rename_i hv
        exact (Memory.wf_cons _ _ _).2 ⟨hv, by simpa [Memory.above] using hlt, hm⟩
    · split
      · rename_i heq
        split
        · exact hwf
        · rename_i hv
          exact (Memory.wf_cons _ _ _).2 ⟨hv, heq ▸ hab, hwf⟩
      · exact (Memory.wf_cons _ _ _).2 ⟨hw, Memory.above_write v (by omega) hab hwf, ih hwf⟩

/-- A read of the address just written gives the byte written. -/
theorem Memory.read_write_same {m : Memory} (a : Nat) (v : Byte) (hm : Memory.wf m = true) :
    Memory.read (Memory.write m a v) a = v := by
  induction m with
  | nil => by_cases hv : v = Memory.blank <;> simp [Memory.write, Memory.read, hv]
  | cons e m ih =>
    obtain ⟨b, w⟩ := e
    have ⟨_, hab, hwf⟩ := (Memory.wf_cons b w m).1 hm
    simp only [Memory.write]
    split
    · split
      · rename_i hv
        rw [Memory.read, if_neg (by omega), Memory.read_above (n := b) (by omega) hab hwf, hv]
      · simp [Memory.read]
    · split
      · rename_i heq
        split
        · rename_i hv
          rw [Memory.read_above (n := b) (by omega) hab hwf, hv]
        · simp [Memory.read]
      · rename_i hne
        rw [Memory.read, if_neg hne, ih hwf]

/-- A write leaves every other address alone. -/
theorem Memory.read_write_other {m : Memory} {a x : Nat} (v : Byte) (hx : x ≠ a) (hm : Memory.wf m = true) :
    Memory.read (Memory.write m a v) x = Memory.read m x := by
  induction m with
  | nil => by_cases hv : v = Memory.blank <;> simp [Memory.write, Memory.read, hv, hx]
  | cons e m ih =>
    obtain ⟨b, w⟩ := e
    have ⟨_, hab, hwf⟩ := (Memory.wf_cons b w m).1 hm
    simp only [Memory.write]
    split
    · split
      · rfl
      · rw [Memory.read, if_neg hx]
    · split
      · rename_i heq
        split
        · rw [Memory.read, if_neg (by omega)]
        · simp only [Memory.read, if_neg hx, if_neg (show x ≠ b by omega)]
      · simp only [Memory.read]
        split
        · rfl
        · exact ih hwf

/-- What a read after a write gives, at any address. -/
theorem Memory.read_write {m : Memory} (a x : Nat) (v : Byte) (hm : Memory.wf m = true) :
    Memory.read (Memory.write m a v) x = if x = a then v else Memory.read m x := by
  split
  · rename_i h; rw [h, Memory.read_write_same a v hm]
  · rename_i h; exact Memory.read_write_other v h hm

/-- The memory of the machine after power-on is in canonical form. -/
theorem Memory.wf_powerOn (c : Cfg) : Memory.wf (State.powerOn c).mem = true := rfl

/-- The memory of `State.reset` is in canonical form. -/
theorem Memory.wf_reset : Memory.wf State.reset.mem = true := rfl

/-! ### Cells -/

/-- A user RAM cell lies below every video RAM cell. -/
theorem userCell_lt_videoCell (k : Fin 4) (o o' : BitVec 14) (b : Nat) : userCell k o < videoCell b o' := by
  have := k.isLt
  have := o.isLt
  unfold userCell videoCell
  omega

/-- Two user RAM cells are one only when bank and offset are. -/
theorem userCell_inj {k k' : Fin 4} {o o' : BitVec 14} (h : userCell k o = userCell k' o') : k = k' ∧ o = o' := by
  have := o.isLt
  have := o'.isLt
  unfold userCell at h
  exact ⟨Fin.ext (by omega), BitVec.eq_of_toNat_eq (by omega)⟩

/-- Two video RAM cells are one only when bank and offset are. -/
theorem videoCell_inj {b b' : Nat} {o o' : BitVec 14} (h : videoCell b o = videoCell b' o') : b = b' ∧ o = o' := by
  have := o.isLt
  have := o'.isLt
  unfold videoCell at h
  exact ⟨by omega, BitVec.eq_of_toNat_eq (by omega)⟩

/-! ### Maps from numbers to numbers -/

/-- What a map gives after a value was put at a key: here at any key of a map, sorted or not, at the key itself. -/
theorem NatMap.find_put_same (m : NatMap) (a v : Nat) : (m.put a v).find a = some v := by
  induction m with
  | nil => simp [NatMap.put, NatMap.find]
  | cons e m ih =>
    obtain ⟨b, w⟩ := e
    simp only [NatMap.put]
    split
    · simp [NatMap.find]
    · split
      · simp [NatMap.find]
      · rename_i h; simp [NatMap.find, h, ih]

/-- A value put at a key leaves every other key alone. -/
theorem NatMap.find_put_other (m : NatMap) {a x : Nat} (v : Nat) (h : x ≠ a) : (m.put a v).find x = m.find x := by
  induction m with
  | nil => simp [NatMap.put, NatMap.find, h]
  | cons e m ih =>
    obtain ⟨b, w⟩ := e
    simp only [NatMap.put]
    split
    · simp [NatMap.find, h]
    · split
      · rename_i hb; subst hb; simp [NatMap.find, h]
      · simp only [NatMap.find, ih]

end Sys2Proof.Machine
end

