-- ==== Sys2Proof/Laws/MemoryBus.lean ====
section
/-! SUPPORT. The laws of the debug side channel's index (40_memory_bus.md R172, R174). -/

namespace Sys2Proof.Machine

/-- A page and an offset of user RAM. -/
theorem debugIndex_userRam (c : Cfg) (s : State) (pg o : Nat) :
    debugIndex (debugDesc c s .userRam) pg o = pg * 0x4000 + o := by
  have h : 0x10000 / max 1 ((0x10000 + 0x3FFF) / 0x4000) = 0x4000 := by decide
  simp only [debugIndex, debugDesc, storeSize, h]

/-- A page and an offset of video RAM. -/
theorem debugIndex_videoRam (c : Cfg) (s : State) (pg o : Nat) :
    debugIndex (debugDesc c s .videoRam) pg o = pg * 0x4000 + o := by
  have h : 0 < c.vidBanks := Nat.succ_pos _
  have h1 : max 1 ((0x4000 * c.vidBanks + 0x3FFF) / 0x4000) = c.vidBanks := by omega
  have h2 : 0x4000 * c.vidBanks / c.vidBanks = 0x4000 := Nat.mul_div_cancel _ h
  show pg * (0x4000 * c.vidBanks / max 1 ((0x4000 * c.vidBanks + 0x3FFF) / 0x4000)) + o = _
  rw [h1, h2]

/-- An offset in a store's first page. -/
theorem debugIndex_first (d : DebugDesc) (o : Nat) : debugIndex d 0 o = o := by simp [debugIndex]

/-- A page and an offset of user RAM are a cell of it. -/
theorem debugIndex_userCell (c : Cfg) (s : State) (k : Fin 4) (o : BitVec 14) :
    debugIndex (debugDesc c s .userRam) k.val o.toNat = userCell k o := by
  rw [debugIndex_userRam, userCell, Nat.mul_comm]

/-- A page and an offset of video RAM are a cell of it. -/
theorem debugIndex_videoCell (c : Cfg) (s : State) (b : Nat) (o : BitVec 14) :
    0x10000 + debugIndex (debugDesc c s .videoRam) b o.toNat = videoCell b o := by
  rw [debugIndex_videoRam, videoCell, Nat.mul_comm, Nat.add_assoc]

end Sys2Proof.Machine
end

