-- ==== Sys2Proof/Laws/PerInstr.lean ====
section
/-! SUPPORT. The family OperationByte: the first byte of every instruction's encoding names an operation the decoder
knows, so no instruction is taken for an unknown one. One lemma per constructor of `Instr`. -/

namespace Sys2Proof.Laws.OperationByte

/-- The encoding of `i` starts with a byte, and the decoder reads operands after that byte. -/
def Statement (i : Instr) : Prop :=
  ∃ (op : Byte) (l : List Byte), encode i = op :: l ∧ parseOperation op [] ≠ .error (.unknownOperation op)

theorem memrd : ∀ x0, Statement (.memrd x0) := fun _ => ⟨_, _, rfl, by decide⟩
theorem memwr : ∀ x0 x1, Statement (.memwr x0 x1) := fun _ _ => ⟨_, _, rfl, by decide⟩
theorem dbgrd : ∀ x0 x1 x2, Statement (.dbgrd x0 x1 x2) := fun _ _ _ => ⟨_, _, rfl, by decide⟩
theorem dbgwr : ∀ x0 x1 x2 x3, Statement (.dbgwr x0 x1 x2 x3) := fun _ _ _ _ => ⟨_, _, rfl, by decide⟩
theorem portrd : ∀ x0, Statement (.portrd x0) := fun _ => ⟨_, _, rfl, by decide⟩
theorem portwr : ∀ x0 x1, Statement (.portwr x0 x1) := fun _ _ => ⟨_, _, rfl, by decide⟩
theorem busreset : Statement .busreset := ⟨_, _, rfl, by decide⟩
theorem addreader : ∀ x0 x1, Statement (.addreader x0 x1) := fun _ _ => ⟨_, _, rfl, by decide⟩
theorem addwriter : ∀ x0 x1, Statement (.addwriter x0 x1) := fun _ _ => ⟨_, _, rfl, by decide⟩
theorem addreset : ∀ x0 x1, Statement (.addreset x0 x1) := fun _ _ => ⟨_, _, rfl, by decide⟩
theorem removereader : ∀ x0 x1, Statement (.removereader x0 x1) := fun _ _ => ⟨_, _, rfl, by decide⟩
theorem removewriter : ∀ x0 x1, Statement (.removewriter x0 x1) := fun _ _ => ⟨_, _, rfl, by decide⟩
theorem removereset : ∀ x0 x1, Statement (.removereset x0 x1) := fun _ _ => ⟨_, _, rfl, by decide⟩
theorem renderline : Statement .renderline := ⟨_, _, rfl, by decide⟩
theorem render : ∀ x0 x1 x2 x3, Statement (.render x0 x1 x2 x3) := fun _ _ _ _ => ⟨_, _, rfl, by decide⟩
theorem periodic : ∀ x0, Statement (.periodic x0) := fun _ => ⟨_, _, rfl, by decide⟩
theorem install : ∀ x0 x1, Statement (.install x0 x1) := fun _ _ => ⟨_, _, rfl, by decide⟩
theorem remove : ∀ x0, Statement (.remove x0) := fun _ => ⟨_, _, rfl, by decide⟩
theorem mstoticks : ∀ x0, Statement (.mstoticks x0) := fun _ => ⟨_, _, rfl, by decide⟩
theorem ustoticks : ∀ x0, Statement (.ustoticks x0) := fun _ => ⟨_, _, rfl, by decide⟩
theorem tickstoms : ∀ x0, Statement (.tickstoms x0) := fun _ => ⟨_, _, rfl, by decide⟩
theorem getticks : Statement .getticks := ⟨_, _, rfl, by decide⟩
theorem tickssince : ∀ x0, Statement (.tickssince x0) := fun _ => ⟨_, _, rfl, by decide⟩
theorem reset : Statement .reset := ⟨_, _, rfl, by decide⟩
theorem outBorder : ∀ x0, Statement (.outBorder x0) := fun _ => ⟨_, _, rfl, by decide⟩
theorem outPaging : ∀ x0, Statement (.outPaging x0) := fun _ => ⟨_, _, rfl, by decide⟩
theorem outExtsel : ∀ x0, Statement (.outExtsel x0) := fun _ => ⟨_, _, rfl, by decide⟩
theorem outPage3 : ∀ x0, Statement (.outPage3 x0) := fun _ => ⟨_, _, rfl, by decide⟩
theorem outSndfreql : ∀ x0, Statement (.outSndfreql x0) := fun _ => ⟨_, _, rfl, by decide⟩
theorem outSndfreqh : ∀ x0, Statement (.outSndfreqh x0) := fun _ => ⟨_, _, rfl, by decide⟩
theorem outSndvol : ∀ x0, Statement (.outSndvol x0) := fun _ => ⟨_, _, rfl, by decide⟩
theorem outIntclr : ∀ x0, Statement (.outIntclr x0) := fun _ => ⟨_, _, rfl, by decide⟩
theorem inKbd : Statement .inKbd := ⟨_, _, rfl, by decide⟩
theorem inIntstat : Statement .inIntstat := ⟨_, _, rfl, by decide⟩
theorem inCardid : Statement .inCardid := ⟨_, _, rfl, by decide⟩
theorem inAckstat : Statement .inAckstat := ⟨_, _, rfl, by decide⟩
theorem outPal0 : ∀ x0, Statement (.outPal0 x0) := fun _ => ⟨_, _, rfl, by decide⟩
theorem outPal1 : ∀ x0, Statement (.outPal1 x0) := fun _ => ⟨_, _, rfl, by decide⟩
theorem outPal2 : ∀ x0, Statement (.outPal2 x0) := fun _ => ⟨_, _, rfl, by decide⟩
theorem outPal3 : ∀ x0, Statement (.outPal3 x0) := fun _ => ⟨_, _, rfl, by decide⟩
theorem outCrtcaddr : ∀ x0, Statement (.outCrtcaddr x0) := fun _ => ⟨_, _, rfl, by decide⟩
theorem outCrtcdata : ∀ x0, Statement (.outCrtcdata x0) := fun _ => ⟨_, _, rfl, by decide⟩
theorem inCrtcdata : Statement .inCrtcdata := ⟨_, _, rfl, by decide⟩
theorem outGfxmode : ∀ x0, Statement (.outGfxmode x0) := fun _ => ⟨_, _, rfl, by decide⟩
theorem inCardwin : ∀ x0 x1 x2, Statement (.inCardwin x0 x1 x2) := fun _ _ _ => ⟨_, _, rfl, by decide⟩
theorem outCardwin : ∀ x0 x1 x2 x3, Statement (.outCardwin x0 x1 x2 x3) := fun _ _ _ _ => ⟨_, _, rfl, by decide⟩
theorem fdcCmdW : ∀ x0, Statement (.fdcCmdW x0) := fun _ => ⟨_, _, rfl, by decide⟩
theorem fdcStatusR : Statement .fdcStatusR := ⟨_, _, rfl, by decide⟩
theorem fdcTrackW : ∀ x0, Statement (.fdcTrackW x0) := fun _ => ⟨_, _, rfl, by decide⟩
theorem fdcTrackR : Statement .fdcTrackR := ⟨_, _, rfl, by decide⟩
theorem fdcSectorW : ∀ x0, Statement (.fdcSectorW x0) := fun _ => ⟨_, _, rfl, by decide⟩
theorem fdcSectorR : Statement .fdcSectorR := ⟨_, _, rfl, by decide⟩
theorem fdcDataW : ∀ x0, Statement (.fdcDataW x0) := fun _ => ⟨_, _, rfl, by decide⟩
theorem fdcDataR : Statement .fdcDataR := ⟨_, _, rfl, by decide⟩
theorem fdcCtrlW : ∀ x0, Statement (.fdcCtrlW x0) := fun _ => ⟨_, _, rfl, by decide⟩
theorem fdcRestore : ∀ x0 x1 x2, Statement (.fdcRestore x0 x1 x2) := fun _ _ _ => ⟨_, _, rfl, by decide⟩
theorem fdcSeek : ∀ x0 x1 x2, Statement (.fdcSeek x0 x1 x2) := fun _ _ _ => ⟨_, _, rfl, by decide⟩
theorem fdcStep : ∀ x0 x1 x2 x3, Statement (.fdcStep x0 x1 x2 x3) := fun _ _ _ _ => ⟨_, _, rfl, by decide⟩
theorem fdcStepin : ∀ x0 x1 x2 x3, Statement (.fdcStepin x0 x1 x2 x3) := fun _ _ _ _ => ⟨_, _, rfl, by decide⟩
theorem fdcStepout : ∀ x0 x1 x2 x3, Statement (.fdcStepout x0 x1 x2 x3) := fun _ _ _ _ => ⟨_, _, rfl, by decide⟩
theorem fdcReadsec : ∀ x0 x1 x2 x3 x4, Statement (.fdcReadsec x0 x1 x2 x3 x4) := fun _ _ _ _ _ => ⟨_, _, rfl, by decide⟩
theorem fdcWritesec : ∀ x0 x1 x2 x3 x4, Statement (.fdcWritesec x0 x1 x2 x3 x4) := fun _ _ _ _ _ => ⟨_, _, rfl, by decide⟩
theorem fdcReadaddr : ∀ x0 x1 x2 x3, Statement (.fdcReadaddr x0 x1 x2 x3) := fun _ _ _ _ => ⟨_, _, rfl, by decide⟩
theorem fdcForceint : ∀ x0, Statement (.fdcForceint x0) := fun _ => ⟨_, _, rfl, by decide⟩
theorem fdcReadtrk : ∀ x0 x1 x2 x3, Statement (.fdcReadtrk x0 x1 x2 x3) := fun _ _ _ _ => ⟨_, _, rfl, by decide⟩
theorem fdcWritetrk : ∀ x0 x1 x2 x3, Statement (.fdcWritetrk x0 x1 x2 x3) := fun _ _ _ _ => ⟨_, _, rfl, by decide⟩

end Sys2Proof.Laws.OperationByte
end

