-- ==== Sys2Proof/Laws/Ports.lean ====
section
/-! SUPPORT. The laws of the port registry: the last occurrence removed, the list that R404 compares with, and what one
registration does to every slot. -/

namespace Sys2Proof.Machine

/-! ### The last element that meets a condition -/

/-- A list has no element that meets a condition, or a last one. -/
theorem last_cases {α : Type} (p : α → Bool) (l : List α) :
    (∀ x ∈ l, p x = false) ∨ ∃ a e b, l = a ++ e :: b ∧ p e = true ∧ ∀ x ∈ b, p x = false := by
  induction l with
  | nil => exact .inl nofun
  | cons y l ih =>
    rcases ih with h | ⟨a, e, b, rfl, he, hb⟩
    · cases hy : p y
      · exact .inl (by simpa [hy] using h)
      · exact .inr ⟨[], y, l, rfl, hy, h⟩
    · exact .inr ⟨y :: a, e, b, rfl, he, hb⟩

/-- Where no element meets the condition nothing is replaced. -/
theorem onLast_none {α : Type} (p : α → Bool) (f : α → List α) (l : List α) (h : ∀ x ∈ l, p x = false) :
    onLast p f l = l := by
  cases l with
  | nil => rfl
  | cons e l =>
    have hn : l.any p = false := List.any_eq_false.2 fun x hx => by simp [h x (.tail _ hx)]
    rw [onLast, hn, if_neg (by simp), if_neg (by simp [h e (.head _)])]

/-- The last element that meets the condition is the one replaced. -/
theorem onLast_last {α : Type} (p : α → Bool) (f : α → List α) (a : List α) (e : α) (b : List α) (he : p e = true)
    (hb : ∀ x ∈ b, p x = false) : onLast p f (a ++ e :: b) = a ++ (f e ++ b) := by
  induction a with
  | nil =>
    have hn : b.any p = false := List.any_eq_false.2 fun x hx => by simp [hb x hx]
    rw [List.nil_append, onLast, hn, if_neg (by simp), if_pos he, List.nil_append]
  | cons x a ih =>
    have hy : (a ++ e :: b).any p = true := by simp [he]
    rw [List.cons_append, onLast, if_pos hy, ih, List.cons_append]

/-! ### `removeLast` (00_scope.md R10) -/

section Lists

variable {α : Type} [DecidableEq α]

/-- An absent handler is removed from nothing. -/
theorem removeLast_absent (h : α) (l : List (Entry α)) (hl : ∀ e ∈ l, e.handler ≠ h) : removeLast h l = l :=
  onLast_none _ _ _ fun e he => decide_eq_false (hl e he)

/-- The last occurrence is the one removed. -/
theorem removeLast_last (e : Entry α) (l m : List (Entry α)) (hm : ∀ x ∈ m, x.handler ≠ e.handler) :
    removeLast e.handler (l ++ e :: m) = l ++ m :=
  onLast_last _ _ _ _ _ (by simp) fun x hx => decide_eq_false (hm x hx)

/-- A handler appended and then removed leaves the list as it was (41_portbus.md R201). -/
theorem removeLast_append (o : Owner) (h : α) (l : List (Entry α)) : removeLast h (l ++ [⟨o, h⟩]) = l := by
  simpa using removeLast_last ⟨o, h⟩ l [] (by simp)

/-! ### Deregistrations (41_portbus.md R196, log 16) -/

/-- The owner of the last occurrence. -/
theorem lastOwner_last (e : Entry α) (l m : List (Entry α)) (hm : ∀ x ∈ m, x.handler ≠ e.handler) :
    lastOwner e.handler (l ++ e :: m) = some e.owner := by
  have h : m.reverse.find? (fun x => decide (x.handler = e.handler)) = none := by simpa using hm
  simp [lastOwner, h]

/-- A change of owner changes no handler. -/
@[simp] theorem passOwner_handlers (h : α) (o : Owner) (l : List (Entry α)) :
    (passOwner h o l).map Entry.handler = l.map Entry.handler := by
  unfold passOwner
  rcases last_cases (fun e : Entry α => decide (e.handler = h) && decide (e.owner ≠ o)) l with hl | ⟨a, e, b, rfl, he, hb⟩
  · rw [onLast_none _ _ _ hl]
  · rw [onLast_last (fun e : Entry α => decide (e.handler = h) && decide (e.owner ≠ o)) _ _ _ _ he hb]; simp

/-- A deregistration takes the last occurrence of the handler away, whoever registered it. -/
@[simp] theorem removeHandler_handlers (h : α) (l : List (Entry α)) :
    (removeHandler h l).map Entry.handler = (removeLast h l).map Entry.handler := by
  unfold removeHandler
  split <;> simp

/-- An absent handler is deregistered from nothing. -/
theorem removeHandler_absent (h : α) (l : List (Entry α)) (hl : ∀ e ∈ l, e.handler ≠ h) : removeHandler h l = l := by
  have ho : lastOwner h l = none := by simpa [lastOwner] using hl
  simp only [removeHandler, ho, removeLast_absent h l hl]

/-- An occurrence that no peripheral registered is just taken away. -/
theorem removeHandler_other (h : α) (l : List (Entry α)) (ho : ∀ k, lastOwner h l ≠ some (.slot k)) :
    removeHandler h l = removeLast h l := by
  unfold removeHandler
  split
  · rename_i k hk; exact absurd hk (ho k)
  · rfl

/-- A handler that the host registered last and deregisters leaves the list as it was (R201). -/
theorem removeHandler_append (h : α) (l : List (Entry α)) : removeHandler h (l ++ [⟨.host, h⟩]) = l := by
  have ho : lastOwner h (l ++ [⟨.host, h⟩]) = some .host := lastOwner_last ⟨.host, h⟩ l [] nofun
  simp only [removeHandler, ho, removeLast_append]

/-- The entries that are not slot k's stay, through a deregistration, the list there would be had the peripheral of slot
k never been installed (46_backplane.md R404), when no other slot has an entry in the list. -/
theorem removeHandler_without (h : α) (k : Fin 4) (l : List (Entry α)) (hk : ∀ e ∈ l, ∀ j, e.owner = .slot j → j = k) :
    ((removeHandler h l).filter fun e => decide (e.owner ≠ .slot k)).map Entry.handler =
      (removeLast h (l.filter fun e => decide (e.owner ≠ .slot k))).map Entry.handler := by
  rcases last_cases (fun e : Entry α => decide (e.handler = h)) l with hl | ⟨a, e, b, rfl, he, hb⟩
  · have hl' : ∀ e ∈ l, e.handler ≠ h := by simpa using hl
    rw [removeHandler_absent h l hl', removeLast_absent]
    intro e he
    exact hl' e (List.mem_filter.1 he).1
  · simp only [decide_eq_true_eq] at he
    subst he
    have hb' : ∀ x ∈ b, x.handler ≠ e.handler := by simpa using hb
    by_cases ho : e.owner = .slot k
    · simp only [removeHandler, lastOwner_last e a b hb', removeLast_last e a b hb', ho, List.filter_append]
      rw [List.filter_cons_of_neg (by simp [ho]), ← List.filter_append]
      unfold passOwner
      rcases last_cases (fun x : Entry α => decide (x.handler = e.handler) && decide (x.owner ≠ .slot k)) (a ++ b) with
        hn | ⟨a', x, b', hab, hx, hn⟩
      · rw [onLast_none _ _ _ hn, removeLast_absent]
        intro x hx hxe
        have := hn x (List.mem_filter.1 hx).1
        simp_all
      · rw [hab, onLast_last (fun x : Entry α => decide (x.handler = e.handler) && decide (x.owner ≠ .slot k)) _ _ _ _ hx hn]
        simp only [Bool.and_eq_true, decide_eq_true_eq] at hx
        rw [List.filter_append, List.filter_append, List.filter_append, List.filter_cons_of_neg (by simp),
          List.filter_cons_of_pos (by simp [hx.2]), ← hx.1, removeLast_last]
        · simp
        · intro y hy hye
          have := hn y (List.mem_filter.1 hy).1
          have := (List.mem_filter.1 hy).2
          simp_all
    · have hs : ∀ j, e.owner ≠ .slot j := fun j hj => ho (hj ▸ congrArg Owner.slot (hk e (by simp) j hj))
      rw [removeHandler_other _ _ (by simpa [lastOwner_last e a b hb'] using hs), removeLast_last e a b hb',
        List.filter_append, List.filter_append, List.filter_cons_of_pos (by simp [ho]), removeLast_last]
      intro y hy
      exact hb' y (List.mem_filter.1 hy).1

end Lists

/-! ### Slots -/

@[simp] theorem Slots.put_at (t : Slots) (p : Byte) : t.put p (t.at p) = t := by
  apply Vector.ext
  intro i hi
  simp only [Slots.put, Slots.at, Vector.getElem_set]
  split
  · rename_i h; subst h; rfl
  · rfl

@[simp] theorem Slots.at_put (t : Slots) (p : Byte) (q : PortSlot) : (t.put p q).at p = q := by
  simp only [Slots.put, Slots.at, Vector.get_eq_getElem]
  exact Vector.getElem_set_self _

@[simp] theorem Slots.put_put (t : Slots) (p : Byte) (q r : PortSlot) : (t.put p q).put p r = t.put p r := by
  simp [Slots.put]

/-- One slot changed leaves the others alone. -/
theorem Slots.at_put_other (t : Slots) {p x : Byte} (q : PortSlot) (h : x ≠ p) : (t.put p q).at x = t.at x := by
  have hi : (slotIndex p).val ≠ (slotIndex x).val := by
    intro hx; exact h (BitVec.eq_of_toNat_eq hx.symm)
  simp only [Slots.put, Slots.at, Vector.get_eq_getElem]
  exact Vector.getElem_set_ne _ _ hi

/-- Slots are one when they agree at every port number. -/
theorem Slots.ext_at {t u : Slots} (h : ∀ p, t.at p = u.at p) : t = u := by
  apply Vector.ext
  intro i hi
  have := h (BitVec.ofNat 8 i)
  have hn : (BitVec.ofNat 8 i).toNat = i := by simp; omega
  simpa [Slots.at, slotIndex, Vector.get_eq_getElem, hn, Nat.mod_eq_of_lt hi] using this

/-- The port number of a registration. -/
def regPort : RegOp → Byte
  | .addReader p _ | .addWriter p _ | .addReset p _ | .removeReader p _ | .removeWriter p _ | .removeReset p _ => p

/-- A registration leaves the slots of other ports alone. -/
theorem Slots.apply_other (o : Owner) (t : Slots) (r : RegOp) {x : Byte} (h : x ≠ regPort r) :
    (t.apply o r).at x = t.at x := by
  cases r <;> exact Slots.at_put_other _ _ h

end Sys2Proof.Machine
end

