-- ==== Sys2Proof/Laws/Sound.lean ====
section
/-! SUPPORT. The laws of the sound generators: catch-up in steps (44_sound.md R292, R299), and the level at a tick (R303). -/

namespace Sys2Proof.Machine

/-! ### The built-in generator -/

/-- A property that every counter step keeps is kept by any number of them. -/
theorem soundSteps_keeps {P : Sound × Bool → Prop} (c : Cfg) (h : ∀ t x, P x → P (soundStep c t x)) (n k : Nat)
    (x : Sound × Bool) (hx : P x) : P (soundSteps c n k x) := by
  induction n generalizing k x with
  | zero => exact hx
  | succ n ih => exact ih _ _ (h _ _ hx)

/-- A property that every counter step keeps, and the catch-up tick does not matter to, is kept by the catch-up. -/
theorem soundAdvance_keeps {P : Sound × Bool → Prop} (c : Cfg) (h : ∀ t x, P x → P (soundStep c t x))
    (ht : ∀ t x, P x → P ({ x.1 with sndTick := t }, x.2)) (t : Tick) (x : Sound × Bool) (hx : P x) :
    P (soundAdvance c t x) := by
  unfold soundAdvance
  split
  · exact hx
  · exact ht _ _ (soundSteps_keeps c h _ _ _ hx)

/-- A property of one channel step that holds of both channels is one of a counter step. -/
theorem soundStep_keeps {P : Sound × Bool → Prop} (c : Cfg) (t : Tick) (h : ∀ i x, P x → P (stepChannel c t i x))
    (x : Sound × Bool) (hx : P x) : P (soundStep c t x) := by
  unfold soundStep
  split
  · exact h _ _ (h _ _ hx)
  · exact hx

/-- What one channel step changes: a channel, the recorded levels, and the flip-flop. -/
theorem stepChannel_frame (c : Cfg) (t : Tick) (i : Fin 2) (x : Sound × Bool) :
    (stepChannel c t i x).1 =
      { x.1 with ch := (stepChannel c t i x).1.ch, sndEvents := (stepChannel c t i x).1.sndEvents } := by
  unfold stepChannel recordLevel
  dsimp only
  split <;> rfl

/-- A channel step appends to the recorded levels, at its own tick. -/
theorem stepChannel_events (c : Cfg) (t : Tick) (i : Fin 2) (x : Sound × Bool) :
    (stepChannel c t i x).1.sndEvents = x.1.sndEvents ∨
      ∃ v, (stepChannel c t i x).1.sndEvents = x.1.sndEvents ++ [(t, v)] := by
  unfold stepChannel recordLevel
  dsimp only
  split
  · exact .inr ⟨_, rfl⟩
  · exact .inl rfl

/-- Steps in two parts are the steps of both. -/
theorem soundSteps_add (c : Cfg) (m n k : Nat) (x : Sound × Bool) :
    soundSteps c (m + n) k x = soundSteps c n (k + m) (soundSteps c m k x) := by
  induction m generalizing k x with
  | zero => simp [soundSteps]
  | succ m ih => rw [Nat.succ_add, soundSteps, ih, soundSteps, Nat.succ_add_eq_add_succ]

/-- A generator with another catch-up tick. -/
def atTick (u : Tick) (x : Sound × Bool) : Sound × Bool := ({ x.1 with sndTick := u }, x.2)

/-- A counter step reads and writes no catch-up tick. -/
theorem stepChannel_tick (c : Cfg) (t u : Tick) (i : Fin 2) (x : Sound × Bool) :
    stepChannel c t i (atTick u x) = atTick u (stepChannel c t i x) := by
  unfold stepChannel recordLevel dacLevel soundEnabled soundDiv Sound.div0 atTick
  dsimp only
  split <;> rfl

/-- The same for a step of both channels. -/
theorem soundStep_tick (c : Cfg) (t u : Tick) (x : Sound × Bool) :
    soundStep c t (atTick u x) = atTick u (soundStep c t x) := by
  have h : soundEnabled c (atTick u x).1 = soundEnabled c x.1 := rfl
  unfold soundStep
  rw [h]
  split
  · rw [stepChannel_tick, stepChannel_tick]
  · rfl

/-- The same for any number of steps. -/
theorem soundSteps_tick (c : Cfg) (u : Tick) (n k : Nat) (x : Sound × Bool) :
    soundSteps c n k (atTick u x) = atTick u (soundSteps c n k x) := by
  induction n generalizing k x with
  | zero => rfl
  | succ n ih => rw [soundSteps, soundStep_tick, ih, soundSteps]

/-! ### The chips -/

/-- Chip steps in two parts are the steps of both. -/
theorem chipSteps_add (c : Cfg) (d : Dev) (m n k : Nat) (x : Chip) :
    chipSteps c d (m + n) k x = chipSteps c d n (k + m) (chipSteps c d m k x) := by
  induction m generalizing k x with
  | zero => simp [chipSteps]
  | succ m ih => rw [Nat.succ_add, chipSteps, ih, chipSteps, Nat.succ_add_eq_add_succ]

/-- A chip step reads and writes no catch-up tick, so any number of steps leaves another one standing. -/
theorem chipSteps_tick (c : Cfg) (d : Dev) (u : Tick) (n k : Nat) (x : Chip) :
    chipSteps c d n k { x with tick := u } = { chipSteps c d n k x with tick := u } := by
  induction n generalizing k x with
  | zero => rfl
  | succ n ih => rw [chipSteps, chipSteps, ← ih]; rfl

/-! ### Levels -/

@[simp] theorem levelAt_nil {α : Type} (base : α) (t : Nat) : levelAt base [] t = base := rfl

/-- The level after more entries is that of the later ones, from the level the earlier ones give. -/
theorem levelAt_append {α : Type} (base : α) (l m : List (Tick × α)) (t : Nat) :
    levelAt base (l ++ m) t = levelAt (levelAt base l t) m t := by
  unfold levelAt
  rw [List.foldl_append]

/-- Entries after a tick do not change the level at it. -/
theorem levelAt_later {α : Type} (base : α) (l : List (Tick × α)) (t : Nat) (h : ∀ e ∈ l, t < e.1.toNat) :
    levelAt base l t = base := by
  induction l with
  | nil => rfl
  | cons e l ih =>
    have he := h e (.head _)
    have := ih fun x hx => h x (.tail _ hx)
    unfold levelAt at *
    rw [List.foldl_cons, if_neg (by omega), this]

/-- A buffer keeps its length when samples are mixed into it. -/
@[simp] theorem mixSamples_length (f : Nat → Int × Int) (n k : Nat) (l : List (Int × Int)) :
    (mixSamples f n k l).length = l.length := by
  induction n generalizing k l with
  | zero => rfl
  | succ n ih =>
    cases l with
    | nil => rfl
    | cons p l => simp [mixSamples, ih]

end Sys2Proof.Machine
end

