-- ==== Sys2Proof/Tests/Slice0.lean ====
section
/-! SUPPORT. Tests: the worked examples and vectors of 95_test_vectors.md under its test configuration TC1, the operation
words written out from the encodings of 30_encoding.md, and the smoke test of WellFormed. Expected values are the
spec's. -/

namespace Sys2Proof.Tests

open Sys2Proof.Machine

/-! ### The test configuration TC1 (95_test_vectors.md, 93_implementation_defined.md) -/

/-- Table I-1's field places: page 0 bits 4:3, page 1 bit 2, page 2 bit 5, page 3 bits 7:6. -/
def tcBits : Equiv.Perm (Fin 8) :=
  { toFun := fun i => (#v[3, 4, 2, 0, 5, 1, 6, 7] : Vector (Fin 8) 8).get i
    invFun := fun i => (#v[3, 5, 2, 0, 1, 4, 6, 7] : Vector (Fin 8) 8).get i
    left_inv := by decide
    right_inv := by decide }

/-- Candidate I-1. -/
def tcPaging : PagingCfg :=
  { bitOrder := tcBits
    wide := fun p => decide (p = 0) || decide (p = 3)
    cartCode := 1#2
    page0 := fun f => if f = 2#2 then some (.u 0) else some (.u 3)
    page1 := fun r f _ _ => if f = 1#2 ∧ r = .videoAlias then some (.vid 0) else some (.u 1)
    page2 := fun f => if f = 0#2 then some (.vid 0) else some (.u 2)
    page3 := fun f => if f = 0#2 then some .cart else if f = 1#2 then some .sys else if f = 2#2 then some (.u 3) else some .ext }

/-- Candidates I-2; the ROMs hold 0xA0 + i and 0xB0 + i in their first 32 bytes. -/
def tcMem : MemCfg :=
  { (default : MemCfg) with
    sysRomImage := some ((List.range 32).map fun i => BitVec.ofNat 8 (0xA0 + i))
    extRomImage := some ((List.range 32).map fun i => BitVec.ofNat 8 (0xB0 + i))
    vidBanksPred := 0
    extSplit := 0x2000
    extSel := fun v => ⟨(v.extractLsb' 6 2).toNat, (v.extractLsb' 6 2).isLt⟩
    intStatusBit := 4, intStatusLow := true
    kbdRow := fun v => ⟨(v.extractLsb' 0 4).toNat, (v.extractLsb' 0 4).isLt⟩
    tapeMotorBit := 5 }

/-- Candidates I-5 and I-6; the frame has 8 lines, the first visible one is line 2, colours are the bytes themselves. -/
def tcVideo : VideoCfg :=
  { gfxPort := 0x06#8
    gfxMode := fun v => if v.extractLsb' 0 2 = 0#2 then .m2 else if v.extractLsb' 0 2 = 1#2 then .m4 else .m16
    videoAddr := fun ma ra => ma.extractLsb' 6 6 ++ ra ++ ma.extractLsb' 0 6
    unpack4 := fun b i => if b.getLsbD (7 - i.val) then (if b.getLsbD (3 - i.val) then 3 else 2) else (if b.getLsbD (3 - i.val) then 1 else 0)
    unpack16 := fun b i =>
      BitVec.ofBool (b.getLsbD (7 - i.val)) ++ BitVec.ofBool (b.getLsbD (5 - i.val)) ++
        BitVec.ofBool (b.getLsbD (3 - i.val)) ++ BitVec.ofBool (b.getLsbD (1 - i.val))
    color := fun v => v.toNat
    dim := fun p => p / 2
    crtcValid := fun ht _ _ => decide (ht ≠ 1)
    linesPerFramePred := 7
    ticksPerLinePred := 199
    firstVisible := 2
    frameWidth := 4
    leftBorder := 1
    rightBorder := 1
    crtcRead := fun i => decide (14 ≤ i.val)
    dispBankOther := fun _ _ _ _ _ => 0 }

/-- Candidate I-8. -/
def tcSnd : SndCfg :=
  { prescalePred := 15
    postLenPred := 1
    enable := fun h _ => h.getLsbD 4
    volume := fun _ w => w.extractLsb' 2 4
    dac := fun p0 _ w en => if en && decide (p0 = 1) then (w.toNat : Int) else 0
    irq := fun i p h _ => decide (i = 0) && decide (p = 0) && h.getLsbD 5
    div1 := fun l h _ => h.extractLsb' 0 4 ++ l }

/-- The FDC candidates of TC1 and its drive 0, with an image whose first sector starts 0x11, 0x12, 0x13. -/
def tcFdc : FdcCfg :=
  { fast := false
    stepTicksPred := fun r => if r = 0#2 then 18749 else if r = 1#2 then 37499 else if r = 2#2 then 62499 else 93749
    byteTicksPred := 99
    indexWidthPred := 12499
    indexGap := 625000 - 12501
    ctrlOffset := 4
    ctrlDecode := fun v => (some ⟨(v.extractLsb' 0 2).toNat, (v.extractLsb' 0 2).isLt⟩, if v.getLsbD 4 then 1 else 0)
    linesPort := none
    linesByte := fun i d v => v.extractLsb' 2 6 ++ BitVec.ofBool i ++ BitVec.ofBool d
    drives := fun k =>
      if k = 0 then
        some ⟨⟨40, 1, 9, 512⟩, 40, some ⟨[0x11#8, 0x12#8, 0x13#8] ++ List.replicate 509 0x00#8, false⟩⟩
      else none
    getId := 0x01#8 }

/-- Other devices: device n's window reads the low byte of the offset, its ID is n, it has handlers at offset 0 and its
Remove undoes its Install, except device 9's, which leaves its reader, device 10's, which takes the keyboard's reader too,
and that of device 11 as the cartridge, which takes a palette writer; device 8 has no memory window of a card. A chip's
port write is its channel 0's divisor, a divider wraps every `divisor` ticks, and the chip counts the wraps. -/
def tcDev : DevCfg :=
  { (default : DevCfg) with
    hasMem := fun d => decide (d ≠ .other 8)
    memRead := fun _ st _ o => (o.setWidth 8, st)
    readPorts := fun _ _ => [0]
    writePorts := fun _ _ => [0]
    removal := fun n k _ _ =>
      match k with
      | .slot k =>
        (if n = 9 then [] else [.removeReader (cardSlot k 0) (.dev (.other n))]) ++
        (if n = 10 then [.removeReader 0x58#8 .kbd] else []) ++
        [.removeReset (cardSlot k 0) (.dev (.other n)), .removeWriter (cardSlot k 0) (.dev (.other n))]
      | .cart => if n = 11 then [.removeWriter 0x60#8 (.pal 0)] else []
    periodic := fun n x _ => if n = 12 then x + 1 else 0x55
    portRead := fun _ st _ _ _ => (BitVec.ofNat 8 st, st)
    portWrite := fun _ _ _ _ v => v.toNat
    reset := fun _ _ _ => 0x77
    getId := fun d _ =>
      match d with
      | .other n => BitVec.ofNat 8 n
      | _ => 0#8
    toneWrites := fun _ _ x =>
      match x with
      | .portWrite _ v => [.divisor 0 v.toNat]
      | _ => []
    tonePowerOn := fun _ _ => (0, 2, 0)
    divider := fun _ _ _ n x => if x + 1 = n then (0, 1) else (x + 1, 0)
    chipTick := fun _ st w _ => st + w.sum
    chipLevel := fun _ st => ((st : Int), -(st : Int)) }

/-- External handlers of the V-PORT vectors: 0 is A, 1 is B, 2 is C, 7 removes itself from 0xA7; a writer keeps the
value it is given. -/
def tcExt : ExtCfg :=
  { read := fun n st _ _ v =>
      if n = 0 then (0x0F#8, st, [])
      else if n = 1 then (v &&& 0xF0#8, st, [])
      else if n = 7 then (0x12#8, st, [.removeReader 0xA7#8 (.ext 7)])
      else (v, st, [])
    write := fun _ st _ _ v => (st * 256 + v.toNat, [])
    reset := fun _ st _ => (st + 1, []) }

/-- TC1 with the FDC in slot 0. -/
def tc1 : Cfg :=
  { rev := .plain, clockHzPred := 3124999, sampleRatePred := 0, mem := tcMem, paging := tcPaging, video := tcVideo
    snd := tcSnd, fdc := tcFdc, dev := tcDev, ext := tcExt
    cards := fun k => if k = 0 then some .fdc else none
    cart := none
    freeByte := fun n => BitVec.ofNat 8 (0xE5 + n)
    freeNat := fun n => 1000 + n
    freeSamples := fun n => [((n : Int), 0x5A)] }

/-- TC1 with the sound vectors' clock: 1600 ticks a second and 100 samples a second. -/
def tcS : Cfg := { tc1 with clockHzPred := 1599, sampleRatePred := 99 }

/-- The state after construction under TC1. -/
def st : State := State.powerOn tc1

/-- The host's tick counter reads t. -/
def at' (t : Nat) (s : State) : State := s.setNow (BitVec.ofNat 64 t)

/-- `OUT p, v`. -/
def out (p v : Nat) (s : State) : State := portWrite tc1 (BitVec.ofNat 16 p) (BitVec.ofNat 8 v) s

/-- `IN p`. -/
def inp (p : Nat) (s : State) : Byte := (portRead tc1 (BitVec.ofNat 16 p) s).1

/-- The state after `IN p`. -/
def inpS (p : Nat) (s : State) : State := (portRead tc1 (BitVec.ofNat 16 p) s).2

/-- `MR a`. -/
def mr (a : Nat) (s : State) : Byte := (memRead tc1 (BitVec.ofNat 16 a) s).1

/-- `MW a, v`. -/
def mw (a v : Nat) (s : State) : State := memWrite tc1 (BitVec.ofNat 16 a) (BitVec.ofNat 8 v) s

/-- `PERIODIC`. -/
def per (s : State) : State := periodicOp tc1 s.now s

/-- The state of the sound vectors of section 6. -/
def sndSt (h : Byte) : State :=
  { State.powerOn tcS with
    sound := { snd04 := 0xFE#8, snd05 := h, snd06 := 0x3C#8, ch := #v[⟨0xFFE#12, 0⟩, ⟨0#12, 0⟩]
               sndTick := 0#64, sndEvents := [], sndBase := 0, lastEnd := 0 } }

/-- The state of the video vectors of section 5, at the first visible line. -/
def vidSt : State :=
  { st with
    video := { st.video with
      crtc := #v[1#8, 2#8, 0#8, 0#8, 0#8, 0#8, 1#8, 0#8, 0#8, 0#8, 0#8, 0#8, 0x3F#8, 0xFF#8, 0#8, 0#8, 0#8, 0#8]
      line := 2 } }

/-! ### WellFormed refuses each ill-formed term -/

theorem test_wf_render_order : (Instr.render .builtin [(0, 0)] 2 1).wellFormed = false := by decide
theorem test_wf_render_buffer : (Instr.render .builtin [(0, 0)] 0 2).wellFormed = false := by decide
theorem test_wf_render_ok : (Instr.render .builtin [(0, 0)] 1 2).wellFormed = true := by decide

/-! ### Decoding: words written out from the encodings (R121, R130, R145, R146) -/

-- memory and ports: the address 0x1234 has its low byte 0x34 first
theorem test_decode_memrd : decode [0x00, 0x34, 0x12] = .ok (.memrd 0x1234) := by decide
theorem test_decode_memwr : decode [0x01, 0x34, 0x12, 0x5A] = .ok (.memwr 0x1234 0x5A) := by decide
theorem test_decode_dbgrd : decode [0x02, 3, 1, 0x80, 0x02] = .ok (.dbgrd .videoRam 1 256) := by decide
theorem test_decode_dbgwr : decode [0x03, 2, 1, 5, 0x77] = .ok (.dbgwr .userRam 1 5 0x77) := by decide
theorem test_decode_portrd : decode [0x04, 0x5A, 0x00] = .ok (.portrd 0x005A) := by decide
theorem test_decode_portwr : decode [0x05, 0x07, 0xFF, 0x01] = .ok (.portwr 0xFF07 0x01) := by decide
theorem test_decode_registry :
    [decode [0x06], decode [0x07, 0xA0, 10, 1], decode [0x08, 0xA0, 8, 3], decode [0x09, 2, 0], decode [0x0A, 0x58, 0],
     decode [0x0B, 0x10, 12], decode [0x0C, 0x10, 1]] =
    [.ok .busreset, .ok (.addreader 0xA0 (.ext 1)), .ok (.addwriter 0xA0 (.pal 3)), .ok (.addreset 2 .mapper),
     .ok (.removereader 0x58 .kbd), .ok (.removewriter 0x10 .fdcCmd), .ok (.removereset 0x10 .fdc)] := by decide
theorem test_decode_host :
    [decode [0x0D], decode [0x0E, 0, 1, 2, 3, 4, 5], decode [0x0F, 1, 0, 0, 0, 0, 0, 0, 0], decode [0x10, 2, 1, 2, 7],
     decode [0x11, 4], decode [0x12, 6], decode [0x13, 32], decode [0x14, 0x80, 0x02], decode [0x15],
     decode [0x16, 200, 0, 0, 0, 0, 0, 0, 0], decode [0x17]] =
    [.ok .renderline, .ok (.render .builtin [(1, -2)] 4 5), .ok (.periodic 1), .ok (.install (.slot 2) (.dev (.other 7))),
     .ok (.remove .cart), .ok (.mstoticks 6), .ok (.ustoticks 32), .ok (.tickstoms 256), .ok .getticks,
     .ok (.tickssince 200), .ok .reset] := by decide
-- port handlers by slot: R130's port numbers
theorem test_decode_port_writes :
    [0x00, 0x02, 0x03, 0x04, 0x05, 0x06, 0x07, 0x60, 0x61, 0x62, 0x63, 0x70, 0x71].map
      (fun n => decode [0x20, BitVec.ofNat 8 n, 0, 9]) =
    [.ok (.outBorder 9), .ok (.outPaging 9), .ok (.outExtsel 9), .ok (.outSndfreql 9), .ok (.outSndfreqh 9),
     .ok (.outSndvol 9), .ok (.outIntclr 9), .ok (.outPal0 9), .ok (.outPal1 9), .ok (.outPal2 9), .ok (.outPal3 9),
     .ok (.outCrtcaddr 9), .ok (.outCrtcdata 9)] := by decide
theorem test_decode_port_reads :
    [0x58, 0x59, 0x5A, 0x5B, 0x71].map (fun n => decode [0x21, BitVec.ofNat 8 n, 0]) =
    [.ok .inKbd, .ok .inIntstat, .ok .inCardid, .ok .inAckstat, .ok .inCrtcdata] := by decide
-- slot 0's window is 0x10 to 0x1F, slot 3's 0x40 to 0x4F (R161)
theorem test_decode_cardwin :
    [decode [0x21, 0x1F, 0xAB], decode [0x20, 0x40, 0x00, 0x01], decode [0x21, 0x50, 0x00]] =
    [.ok (.inCardwin 0 15 0xAB), .ok (.outCardwin 3 0 0x00 0x01), .error (.noPortRow 0x50)] := by decide
theorem test_decode_param_rows :
    [decode [0x22, 5], decode [0x23, 1], decode [0x26, 0]] = [.ok (.outPage3 5), .ok (.outGfxmode 1), .ok (.fdcCtrlW 0)] := by
  decide
-- FDC window offsets: +0 command/status, +1 track, +2 sector, +3 data (R145)
theorem test_decode_fdc_regs :
    [decode [0x24, 0, 0x10], decode [0x25, 0], decode [0x24, 1, 5], decode [0x25, 1], decode [0x24, 2, 1],
     decode [0x25, 2], decode [0x24, 3, 5], decode [0x25, 3], decode [0x24, 4, 0]] =
    [.ok (.fdcCmdW 0x10), .ok .fdcStatusR, .ok (.fdcTrackW 5), .ok .fdcTrackR, .ok (.fdcSectorW 1), .ok .fdcSectorR,
     .ok (.fdcDataW 5), .ok .fdcDataR, .error (.noFdcRegister 4)] := by decide
-- command bytes of R146: 0000 hVrr ... 1111 0E00
theorem test_decode_fdc_cmds :
    [0b00001010, 0b00010101, 0b00111011, 0b01010000, 0b01100100, 0b10011100, 0b10100011, 0b11000100, 0b11011000,
     0b11100100, 0b11110000].map (fun n => decode [0x27, BitVec.ofNat 8 n]) =
    [.ok (.fdcRestore true false 2), .ok (.fdcSeek false true 1), .ok (.fdcStep true true false 3),
     .ok (.fdcStepin true false false 0), .ok (.fdcStepout false false true 0),
     .ok (.fdcReadsec true true true false false), .ok (.fdcWritesec false false false true true),
     .ok (.fdcReadaddr false true false false), .ok (.fdcForceint 8), .ok (.fdcReadtrk false true false false),
     .ok (.fdcWritetrk false false false false)] := by decide
theorem test_decode_rejects :
    [decode [], decode [0x18], decode [0x00, 1], decode [0x15, 0], decode [0x11, 5]] =
    [.error .empty, .error (.unknownOperation 0x18), .error .truncated, .error .trailing, .error (.badOperand 5)] := by
  decide

/-! ### Memory and paging (section 2) -/

-- V-MEM-1, V-MEM-2, V-MEM-3
theorem test_memrd_sys : mr 0x0010 (mw 0x0010 0x5A (out 0x02 0x00 st)) = 0xB0 := by decide
theorem test_memrd_no_cart : mr 0x0010 (mw 0x0010 0x5A (out 0x02 0x08 st)) = 0xFF := by decide
theorem test_memwr_u0 : (mw 0x0010 0x5A (out 0x02 0x10 st)).mem = [(0x0010, 0x5A)] := by decide
-- V-MEM-7: page 2 is vid[0]
theorem test_memwr_vid : (mw 0x8010 0x5A (out 0x02 0x00 st)).mem = [(0x10010, 0x5A)] := by decide
-- V-MEM-13, V-MEM-23
theorem test_memrd_ext_rom : mr 0xE010 (out 0x02 0xC0 st) = 0xC0 := by decide
theorem test_memrd_ext_card :
    mr 0xC023 (out 0x03 0x40 (out 0x02 0xC0 (installOp tc1 (.slot 1) (.dev (.other 2)) st))) = 0x23 := by decide
-- R84, R95, R402: a card without a memory window reads 0xFF; what is in the cartridge socket answers, with one or not
theorem test_memrd_no_window :
    mr 0xC023 (out 0x03 0x40 (out 0x02 0xC0 (installOp tc1 (.slot 1) (.dev (.other 8)) st))) = 0xFF := by decide
theorem test_memrd_cart : mr 0x0023 (out 0x02 0x08 (installOp tc1 .cart (.dev (.other 8)) st)) = 0x23 := by decide
-- V-MEM-15: page 0 and page 3 are both U(3)
theorem test_alias : mr 0xC005 (mw 0x0005 0x77 (out 0x02 0x98 st)) = 0x77 := by decide
-- V-MEM-20, V-MEM-22
theorem test_dbgwr_u : debugRead tc1 .userRam 0 0x10 (debugWrite tc1 .userRam 0 0x10 0x33 st) = 0x33 := by decide
theorem test_dbgrd_out : debugRead tc1 .sys 0 0x4000 st = 0xFF := by decide
-- V-MEM-21: a ROM is not writable through debug
theorem test_dbgwr_sys : debugRead tc1 .sys 0 0 (debugWrite tc1 .sys 0 0 0 st) = 0xA0 := by decide

/-! ### Port bus (section 3) -/

-- V-PORT-1 to V-PORT-3
theorem test_portrd_empty : inp 0x01 st = 0xFF := by decide
theorem test_portrd_order :
    inp 0xA0 (register (.addReader 0xA0 (.ext 1)) (register (.addReader 0xA0 (.ext 0)) st)) = 0x00 := by decide
-- V-PORT-5: the last occurrence is removed
theorem test_remove_last :
    ((register (.removeReader 0xA3 (.ext 0)) (register (.addReader 0xA3 (.ext 0)) (register (.addReader 0xA3 (.ext 0)) st))).slots.at 0xA3).readers
      = [⟨.host, .ext 0⟩] := by decide
-- V-PORT-7: the writer sees 0x42 twice
theorem test_portwr_twice :
    (out 0xA5 0x42 (register (.addWriter 0xA5 (.ext 3)) (register (.addWriter 0xA5 (.ext 3)) st))).exts = [(3, 0x4242)] := by
  decide
-- V-PORT-9: a reader that removes itself
theorem test_portrd_self_removal :
    (inp 0xA7 (register (.addReader 0xA7 (.ext 7)) st), inp 0xA7 (inpS 0xA7 (register (.addReader 0xA7 (.ext 7)) st))) = (0x12, 0xFF) := by
  decide
-- V-PORT-10: the slot is the low byte
theorem test_portrd_high : inp 0xFF5A st = inp 0x125A st := by decide
-- a reset handler on two slots runs twice (R192)
theorem test_busreset_twice :
    (busReset tc1 (register (.addReset 0x40 (.ext 4)) (register (.addReset 0x30 (.ext 4)) st))).exts = [(4, 2)] := by decide
-- V-PORT-6, and the symmetric row for resets
theorem test_remove_absent :
    ((register (.removeWriter 0xA4 (.ext 5)) (register (.removeReset 0xA4 (.ext 5)) st)).slots == st.slots) = true := by
  decide +kernel

/-! ### System ports (section 4) -/

-- V-SYS-1, V-SYS-2, V-SYS-4 to V-SYS-7, V-SYS-9, V-SYS-10
theorem test_border : ((out 0x00 0x2A st).video.border, inp 0x00 st) = (0x2A, 0xFF) := by decide
theorem test_intclr : (out 0x07 0x00 st.raiseInt).intFF = false := by decide
theorem test_intstat_set : (inp 0x59 st.raiseInt).getLsbD 4 = false ∧ (inpS 0x59 st.raiseInt).intFF = true := by decide
theorem test_intstat_clear : (inp 0x59 st).getLsbD 4 = true := by decide
theorem test_kbd :
    inp 0x58 (out 0x03 0x02 (st.setKbd (Vector.replicate 16 (0 : Byte) |>.set 2 0xFE))) = 0xFE := by decide
theorem test_palette : (out 0x61 0x0F st).video.palette = #v[0, 0x0F, 0, 0] := by decide
theorem test_palette_ends : (out 0x63 0x0E (out 0x62 0x0D (out 0x60 0x0F st))).video.palette = #v[0x0F, 0, 0x0D, 0x0E] := by decide
theorem test_reset_paging :
    let s := machineReset tc1 (out 0x03 0x20 (out 0x02 0x55 st))
    (s.paging.port02, s.paging.port03, s.paging.tapeMotor, mr 0x0000 s) = (0x00, 0x00, false, 0xA0) := by decide +kernel
-- R218: without a third paging port its handler changes nothing, wherever it is registered
-- R216: page 1 may follow port03 only under a table whose page 2 or 3 always shows EXT
theorem test_extsel_binds_page1 :
    let p : PagingCfg := { tcPaging with page1 := fun _ _ x _ => if x = 0#8 then some (.u 1) else some .sys }
    (decodePage { tc1 with paging := p } 0x00 0x40 0 1,
      decodePage { tc1 with paging := { p with page3 := fun _ => some .ext } } 0x00 0x40 0 1) = (.u 1, .sys) := by
  decide +kernel
theorem test_page3_absent : (out 0xA0 0x55 (register (.addWriter 0xA0 .page3) st)).paging = st.paging := by decide
theorem test_tape_motor : (out 0x03 0x20 st).paging.tapeMotor = true := by decide
theorem test_ackstat : inp 0x5B st = 0xE5 ∧ (inpS 0x5B st).draws = 1 := by decide

/-! ### Video (section 5) -/

-- V-VID-1: reload, cursor match, MA wrap, end of line
theorem test_renderline_first :
    let s := renderLine tc1 vidSt
    (s.video.ma, s.video.rowStart, s.video.ra, s.video.line, s.intFF) = (0x3FFF, 0x3FFF, 1, 3, true) := by decide
-- V-VID-2: after four lines the row start has moved on
theorem test_renderline_row :
    let s := renderLine tc1 (renderLine tc1 (renderLine tc1 (renderLine tc1 vidSt)))
    (s.video.ma, s.video.rowStart, s.video.ra, s.video.line) = (0x0001, 0x0001, 0, 6) := by decide
-- the bytes of V-VID-1: offsets 0x3F3F and 0x0000, 2-colour pixels between one border pixel on each side (R261, V-VID-5)
theorem test_renderline_pixels :
    let s := { vidSt with mem := [(0x10000, 0xA0), (0x13F3F, 0x80)], video := { vidSt.video with palette := #v[4, 6, 0, 0], border := 9 } }
    ((renderLine tc1 s).video.frameBuf.getD 2 []).map Prod.fst = [9, 6, 4, 4, 4, 4, 4, 4, 4, 6, 4, 6, 4, 4, 4, 4, 4, 9] := by decide
-- V-VID-9: the end of a frame
theorem test_renderline_frame :
    let s := renderLine tc1 { vidSt with video := { vidSt.video with line := 7, frameCount := 7 } }
    (s.video.line, s.video.frameCount, s.frameOut.length) = (0, 8, 1) := by decide
-- V-VID-8: a noise line
theorem test_renderline_noise :
    let s := renderLine tc1 { vidSt with video := { vidSt.video with crtc := Vector.replicate 18 0, ma := 5 } }
    (s.video.ma, s.video.line, s.draws, s.intFF) = (5, 3, 4, false) := by decide
-- V-VID-6, V-VID-7
theorem test_unpack4 : [0, 1, 2, 3].map (tcVideo.unpack4 0x81) = [2, 0, 0, 1] := by decide
theorem test_unpack16 : unpack tc1 { vidSt.video with gfxLatch := 2 } 0x80 = [8, 0] := by decide
-- V-VID-10 to V-VID-13
theorem test_crtcaddr : (out 0x70 0x2C st).video.crtcIdx = 0x0C := by decide
theorem test_crtcdata_none : (out 0x71 0x55 (out 0x70 0x12 st)).video.crtc = st.video.crtc := by decide
theorem test_crtcdata_read : inp 0x71 (out 0x71 0x21 (out 0x70 0x0E st)) = 0x21 := by decide
theorem test_crtcdata_draw : inp 0x71 (out 0x70 0x00 st) = 0xE5 := by decide
-- V-VID-14
theorem test_cursor_miss :
    cursorMatch { vidSt.video with rowStart := 1, crtc := vidSt.video.crtc.set 15 3 } = false := by decide
-- one port, two writers: volume and graphics mode (R210)
theorem test_gfxmode : ((out 0x06 0x01 st).video.gfxLatch, (out 0x06 0x01 st).sound.snd06) = (0x01, 0x01) := by decide

/-! ### Sound (section 6) -/

/-- The buffer RENDER answers with. -/
def rendered : Host.Outcome State Fault Refusal → List (Int × Int)
  | .next s => match s.result with
    | .samples l => l
    | _ => []
  | _ => []

/-- The state a step answers with. -/
def after : Host.Outcome State Fault Refusal → State
  | .next s => s
  | _ => st

-- V-SND-1
theorem test_render : rendered (renderOp tcS .builtin (List.replicate 8 (0, 0)) 0 8 (at' 128 (sndSt 0x1F))) =
    [(0, 0), (0, 0), (15, 15), (15, 15), (0, 0), (0, 0), (15, 15), (15, 15)] := by decide
-- V-SND-2: the second of two split renders
theorem test_render_split :
    rendered (renderOp tcS .builtin (List.replicate 4 (0, 0)) 4 8
      (after (renderOp tcS .builtin (List.replicate 4 (0, 0)) 0 4 (at' 128 (sndSt 0x1F))))) =
    [(0, 0), (0, 0), (15, 15), (15, 15)] := by decide
-- V-SND-5 and V-SND-9
theorem test_intstat_sound :
    let r := intStatRead tcS (at' 64 (sndSt 0x3F))
    (r.1.getLsbD 4, r.2.intFF) = (false, true) := by decide
theorem test_intclr_sound : (intClrWrite tcS 0 (at' 70 (sndSt 0x3F))).intFF = false := by decide
-- V-SND-10: the wrap at 32 used the old divisor, the wrap at 64 loads the new one
theorem test_sndfreql :
    ((sndFreqLWrite tcS 0 (at' 40 (sndSt 0x1F))).soundCatchUp tcS 64).sound.ch.get 0 = ⟨0xF00, 0⟩ := by decide
-- V-SND-11
theorem test_render_ahead : (after (renderOp tcS .builtin [] 0 8 (at' 100 (sndSt 0x1F)))).refused = true := by decide
-- R305: outside the range the buffer is a free value, and the generator still moves on
theorem test_render_short :
    let s := after (renderOp tcS .builtin [] 0 8 (at' 128 (sndSt 0x1F)))
    (s.result, s.sound.lastEnd, s.sound.sndTick, s.draws) = (.samples [(0, 0x5A)], 8, 128, 1) := by decide
theorem test_render_reversed :
    (after (renderOp tcS .xsnd4 [(1, 1)] 4 2 (at' 128 st))).result = .samples [(0, 0x5A)] := by decide
-- R311, R312: four channels of divisor 2 wrap eight times in four ticks; one of divisor 4 wraps once
theorem test_chip_wraps : (chipAdvance tc1 .xsnd4 4 st.xsnd4).core = 8 := by decide
theorem test_chip_divisor : (chipAdvance tc1 .xsnd4 4 (devPortWrite tc1 .xsnd4 0x10 4 st).xsnd4).core = 11 := by decide
-- R297: div0[11:8] = v[3:0]; R298: volume field
theorem test_sndfreqh : (sndFreqHWrite tcS 0x0F (sndSt 0x1F)).sound.div0 = 0xFFE := by decide
theorem test_sndvol : (sndVolWrite tcS 0x3C (sndSt 0x1F)).sound.sndEvents = [(0, 0)] := by decide

/-! ### FDC (section 7) -/

/-- Drive 0 selected, in TC1. -/
def fd : State := out 0x14 0x00 st

/-- Drive 0's head on a track and the track register with it. -/
def onTrack (n : Nat) (s : State) : State :=
  s.setFdc { s.fdc with ftr := BitVec.ofNat 8 n, drive := s.fdc.drive.map fun d => d.map fun d => { d with phys := n } }

/-- Where drive 0's head is. -/
def head (s : State) : Option Nat := (s.fdc.drive.get 0).map Drive.phys

/-- TC1 with an FDC that shows INTRQ and DRQ at the drive-select port (R390), after construction. -/
def tcLines : Cfg := { tc1 with fdc := { tcFdc with linesPort := some 4 } }
def stLines : State := State.powerOn tcLines

-- E4 (Scenario D)
theorem test_fdc_seek :
    let s := out 0x10 0x10 (at' 1000 (out 0x13 0x05 fd))
    (s.fdc.fop, s.fdc.fstart, s.fdc.fdelay, inp 0x10 s) = (.seek, 1000, 93750, 0x07) := by decide
theorem test_fdc_seek_done :
    let s := at' 94750 (per (at' 94749 (out 0x10 0x10 (at' 1000 (out 0x13 0x05 fd)))))
    (inp 0x10 s, inp 0x10 (per s), inp 0x11 (per s), head (per s)) = (0x05, 0x00, 0x05, some 5) := by decide +kernel
-- V-FDC-1
theorem test_fdc_restore :
    let s := per (at' 56250 (out 0x10 0x00 (onTrack 3 fd)))
    (s.fdc.ftr, head s, s.fdc.fop, s.fdc.intrq, inp 0x10 s) = (0, some 0, .none, true, 0x04) := by decide +kernel
-- V-FDC-3: the head is clamped, the track register is not
theorem test_fdc_seek_clamp :
    let s := per (at' 937500 (out 0x10 0x10 (out 0x13 50 fd)))
    (s.fdc.ftr, head s) = (50, some 39) := by decide +kernel
-- V-FDC-4, V-FDC-5, V-FDC-6
theorem test_fdc_stepin :
    let s := per (at' 18750 (out 0x10 0x50 (onTrack 2 fd)))
    (s.fdc.ftr, head s) = (3, some 3) := by decide +kernel
theorem test_fdc_stepout :
    let s := per (at' 18750 (out 0x10 0x70 fd))
    (s.fdc.ftr, head s) = (0xFF, some 0) := by decide +kernel
theorem test_fdc_step :
    let s := per (at' 18750 (out 0x10 0x20 (onTrack 3 fd)))
    (s.fdc.ftr, head s) = (3, some 4) := by decide +kernel
-- V-FDC-7, V-FDC-8, V-FDC-9
theorem test_fdc_busy :
    let s := out 0x10 0x80 (out 0x10 0x10 (out 0x13 0x05 fd))
    (s.fdc.fop, s.fdc.fcmd) = (.seek, 0x10) := by decide
theorem test_fdc_forceint :
    let s := out 0x10 0xD0 (out 0x10 0x10 (out 0x13 0x05 fd))
    (s.fdc.fop, head s, s.fdc.ftr, s.fdc.intrq) = (.none, some 0, 0, false) := by decide
theorem test_fdc_forceint_immediate : (out 0x10 0xD8 fd).fdc.intrq = true := by decide
-- V-FDC-10, V-FDC-12
theorem test_fdc_readsec_notfound : inp 0x10 (out 0x10 0x80 (out 0x12 1 (out 0x11 5 fd))) = 0x10 := by decide
-- V-FDC-14, V-FDC-15
theorem test_fdc_readsec :
    let s := per (at' 2100 (out 0x10 0x80 (at' 2000 (out 0x12 1 fd))))
    (inp 0x10 s, inp 0x13 s, (inpS 0x13 s).fdc.drq, inp 0x13 (per (at' 2350 (inpS 0x13 s)))) = (0x03, 0x11, false, 0x13) := by
  decide +kernel
-- V-FDC-17, V-FDC-18
theorem test_fdc_readaddr :
    let s := per (at' 625000 (per (at' 624999 (out 0x10 0xC0 (at' 1000 fd)))))
    (s.fdc.fop, s.fdc.fbuf.take 4, s.fdc.fstart) = (.idRead, [0, 0, 1, 2], 625000) := by decide +kernel
-- V-FDC-19
theorem test_fdc_idread :
    let s := per (at' 625600 (per (at' 625000 (out 0x10 0xC0 (at' 1000 fd)))))
    (s.fdc.fop, s.fdc.fsr, (s.fdc.drive.get 0).map Drive.sector, s.fdc.intrq) = (.none, 0, some 2, true) := by decide +kernel
-- V-FDC-20, V-FDC-21, V-FDC-22: refused
theorem test_fdc_writesec : ((out 0x10 0xA0 fd).refused, (out 0x10 0xA0 fd).fdc == fd.fdc) = (true, true) := by decide +kernel
theorem test_fdc_readtrk : (out 0x10 0xE4 fd).refused = true := by decide
theorem test_fdc_readsec_multi : (out 0x10 0x90 fd).refused = true := by decide
-- V-FDC-23: drive 1 is absent
theorem test_fdc_ctrl : (inp 0x10 (out 0x14 0x01 fd)).getLsbD 7 = true := by decide
-- R390: bit 1 is INTRQ and bit 0 DRQ in tcFdc; the read takes neither, and Remove deletes the reader
theorem test_fdc_lines :
    let r := portRead tcLines 0x0014 (stLines.setFdc { stLines.fdc with intrq := true })
    (r.1, r.2.fdc.intrq, (portRead tcLines 0x0014 (removeOp tcLines (.slot 0) stLines)).1) = (0xFE, true, 0xFF) := by
  decide +kernel
-- V-FDC-24, V-FDC-25
theorem test_logical : Drive.logical ⟨10, 1, ⟨80, 1, 9, 512⟩, none, 40⟩ = 5 := by decide
theorem test_block : blockNumber ⟨80, 2, 9, 512⟩ 2 1 3 = 47 := by decide
-- V-FDC-26
theorem test_fdc_reset :
    let s := machineReset tc1 (out 0x10 0x10 (out 0x13 0x05 (onTrack 4 fd)))
    (s.fdc.fop, s.fdc.fmode, s.fdc.ftr, head s) = (.none, .typeI, 4, some 4) := by decide +kernel
-- V-FDC-27, and the sector register
theorem test_fdc_track : inp 0x11 (out 0x11 0x05 fd) = 0x05 := by decide
theorem test_fdc_sector : inp 0x12 (out 0x12 0x07 fd) = 0x07 := by decide
-- R365: DRQ at once; R336: the data write takes it
theorem test_fdc_writetrk :
    let s := out 0x10 0xF0 (at' 1000 fd)
    (s.fdc.fop, s.fdc.drq, (out 0x13 0x4E s).fdc.drq) = (.trackWriteWaitForIndex, true, false) := by decide
-- V-FDC-28 from its slot 518 on: the 512th data byte writes block 0
theorem test_fdc_track_write_sector :
    let f := { fd.fdc with fop := .trackWriteData, fopDrive := some 0, fwId := [0, 0, 1, 2], fwSector := List.replicate 511 0xE5, fdr := 0xE5 }
    let g := takeByte tc1 f
    (g.fop, g.fwId, ((g.drive.get 0).bind Drive.image).map fun i => i.bytes == List.replicate 512 0xE5) =
      (.trackWriteGap, [], some true) := by decide +kernel

/-! ### Backplane and timing (sections 8 and 9) -/

/-- TC1 with empty slots. -/
def bp : State := { st with slots := Slots.base tc1, card := Vector.replicate 4 none }

-- E3, V-BP-1, V-BP-3 to V-BP-6
theorem test_cardid : inp 0x5A (installOp tc1 (.slot 0) (.dev (.other 1)) bp) = 0xFD := by decide
theorem test_cardid_slot1 : inp 0x5A (installOp tc1 (.slot 1) (.dev (.other 2)) bp) = 0xFB := by decide
theorem test_install_occupied : (installOp tc1 (.slot 0) (.dev (.other 1)) st).refused = true := by decide
theorem test_remove :
    let s := removeOp tc1 (.slot 0) (installOp tc1 (.slot 0) (.dev (.other 1)) bp)
    (inp 0x5A s, s.refused, s.slots == bp.slots) = (0xFF, false, true) := by decide +kernel
-- R404: an installed FDC's state goes with its card
theorem test_remove_drops : (removeOp tc1 (.slot 0) (out 0x10 0x10 (out 0x13 0x05 fd))).fdc.fop = .none := by decide +kernel
theorem test_remove_fdc : (removeOp tc1 (.slot 0) st).slots == Slots.base tc1 := by decide +kernel
-- V-BP-10: a Remove that leaves a reader
theorem test_remove_asymmetric :
    (removeOp tc1 (.slot 0) (installOp tc1 (.slot 0) (.dev (.other 9)) bp)).refused = true := by decide +kernel
-- R202, R508: a Remove that takes a handler of the base machine, from a slot and from the cartridge socket
theorem test_remove_others :
    ((removeOp tc1 (.slot 0) (installOp tc1 (.slot 0) (.dev (.other 10)) bp)).refused,
      (removeOp tc1 .cart (installOp tc1 .cart (.dev (.other 11)) bp)).refused,
      (removeOp tc1 .cart (installOp tc1 .cart (.dev (.other 10)) bp)).refused) = (true, true, false) := by decide +kernel
theorem test_cardwin : (inp 0x3F st, inp 0x55 st) = (0xFF, 0xFF) := by decide
theorem test_cardwin_write :
    (devPortRead tc1 (.other 5) 0x0020 0xFF (out 0x20 0x31 (installOp tc1 (.slot 1) (.dev (.other 5)) bp))).1 = 0x31 := by decide
-- V-BP-8, V-BP-9
theorem test_periodic_order : (periodicOp tc1 50 (at' 100 st)).refused = true := by decide
-- V-BP-7, with a card in slot 1: its callback leaves 0x55, and the second one at that tick nothing new
theorem test_periodic_twice :
    let s := per (at' 100 (installOp tc1 (.slot 1) (.dev (.other 5)) bp))
    (s.others, per s == s) = ([(5, 0x55)], true) := by decide +kernel
theorem test_reset_cart :
    (machineReset tc1 (installOp tc1 .cart (.dev (.other 6)) st)).others = [(6, 0x77)] := by decide
-- V-TIM-1, V-TIM-3, V-TIM-4, V-TIM-5, V-TIM-6
theorem test_mstoticks : [6, 12, 20, 30].map (msToTicks tc1) = [18750, 37500, 62500, 93750] := by decide
theorem test_ustoticks : [32, 1].map (usToTicks tc1) = [100, 3] := by decide
theorem test_tickstoms : [18750, 3124].map (ticksToMs tc1) = [6, 0] := by decide
theorem test_tickssince : ticksSince 500 200 = 300 ∧ (ticksSince 200 500).toNat = 2 ^ 64 - 300 := by decide
theorem test_getticks : execGetticks (at' 1000 st) = answer (.tick 1000) (at' 1000 st) := rfl
-- V-TIM-7, V-TIM-8
theorem test_index : [0, 12499, 12500, 625000].map (fun t => indexLevel tc1 (BitVec.ofNat 64 t)) = [true, true, false, true] := by decide
theorem test_edges : [0, 624999, 625000].map (nextEdge tc1) = [625000, 625000, 1250000] := by decide

/-! ### The step -/

/-- The outcome is a next state. -/
def isNext : Host.Outcome State Fault Refusal → Bool
  | .next _ => true
  | _ => false

theorem test_step_border :
    (match step (State.reset.withFetchWord 8 0x00) with
     | .next s => s.video.border == 0 && s.calls.isEmpty
     | _ => false) = true := by decide
theorem test_step_end :
    (match step State.reset with
     | .fault .endOfTrace => true
     | _ => false) = true := by decide
theorem test_step_undecodable :
    (match step (State.reset.handOver [0x18]) with
     | .refused (.undecodable (.unknownOperation b)) => b == 0x18
     | _ => false) = true := by decide

/-! ### Witnesses: each hypothesis of a statement is met by a state written out here -/

/-- A call at a tick, with TC1's keyboard matrix. -/
def call (t : Nat) (bytes : List Byte) : Call := ⟨BitVec.ofNat 64 t, Vector.replicate 16 0, bytes⟩

theorem witness_StepRunsDecoded :
    let s := (at' 5 st).setCalls [call 5 [0x0D]]
    s.calls = [call 5 [0x0D]] ∧ s.now.toNat ≤ (call 5 [0x0D]).now.toNat ∧
      decode (call 5 [0x0D]).bytes = .ok .renderline := by decide
theorem witness_StepWithoutOperation :
    st.calls = [] ∧
      (((at' 5 st).setCalls [call 4 []]).calls = [call 4 []] ∧ (call 4 []).now.toNat < (at' 5 st).now.toNat) ∧
      (((at' 5 st).setCalls [call 5 []]).calls = [call 5 []] ∧ (at' 5 st).now.toNat ≤ (call 5 []).now.toNat ∧
        decode (call 5 []).bytes = .error .empty) := by decide
/-- Slots without a handler hold none that stands there wrongly. -/
theorem noEntries_owners (c : Cfg) (s : State) (h : s.slots = Vector.replicate 256 PortSlot.empty) : s.OwnersOk c := by
  intro n
  have hn : s.slots.at n = PortSlot.empty := by simp [h, Slots.at, Vector.get_eq_getElem]
  rw [hn]
  exact ⟨nofun, nofun, nofun⟩

theorem witness_StepKeepsInvariant :
    let s := ({ State.reset with slots := Vector.replicate 256 PortSlot.empty } : State).handOver [0x0D]
    State.Inv Config.cfg s ∧ ∃ t, step s = .next t := by
  refine ⟨⟨rfl, ⟨rfl, fun _ => rfl⟩, noEntries_owners _ _ rfl, ?_, ⟨rfl, rfl⟩, ?_, ?_, ?_, ?_⟩, _, rfl⟩
  · intro k d h
    simp [State.handOver, State.setCalls, State.reset, State.powerOn, Fdc.powerOn, Vector.get_eq_getElem] at h
    obtain ⟨a, _, rfl⟩ := h
    simp [Drive.OnDisk, Drive.powerOn]
  · simp [State.handOver, State.setCalls, State.LineOk, State.reset, State.powerOn, Video.powerOn, Cfg.linesPerFrame]
  · intro i
    fin_cases i <;>
      simp [State.handOver, State.setCalls, State.reset, State.powerOn, Sound.powerOn, Vector.get_eq_getElem, Cfg.postLen]
  · simp [State.handOver, State.setCalls, State.EventsOk, InOrder, State.reset, State.powerOn, Sound.powerOn, Chip.powerOn]
  · simp [State.handOver, State.setCalls, State.TicksOk, State.reset, State.powerOn, Sound.powerOn, Chip.powerOn]
theorem witness_ExecKeepsInputs : ∃ t, exec (.memwr 0x4010 1) st = .next t := ⟨_, rfl⟩
theorem witness_RefusalMark :
    (st.setRefused true).refused = true ∧ (∃ t, exec .getticks (st.setRefused true) = .next t) ∧
      st.refused = false ∧ ∃ t, exec (.fdcWritesec false false false false false) st = .next t ∧ t.refused = true :=
  ⟨rfl, ⟨_, rfl⟩, rfl, _, rfl, rfl⟩
theorem witness_FlipFlopSources :
    (st.intFF = false ∧ ∃ t, exec (.outSndvol 0) (at' 40 { sndSt 0x3F with intFF := false }) = .next t) ∧
      st.raiseInt.intFF = true ∧ ∃ t, exec (.outIntclr 0) st.raiseInt = .next t ∧ t.intFF = false :=
  ⟨⟨rfl, _, rfl⟩, rfl, _, rfl, rfl⟩
theorem witness_BindingsChangeOnlyByPaging :
    ¬mayRebind st .renderline ∧ ¬mayRebind st (.portwr 0x0060 7) ∧ (∃ t, exec .renderline st = .next t) ∧
      ∃ t, exec (.portwr 0x0060 7) st = .next t := by
  refine ⟨?_, ?_, ⟨_, rfl⟩, ⟨_, rfl⟩⟩
  · rintro (h | ⟨a, v, h, _⟩)
    · exact h
    · cases h
  · rintro (h | ⟨a, v, h, hw⟩)
    · exact h
    · cases h
      have hp : (st.slots.at ((0x0060 : Word).extractLsb' 0 8)).writers = [⟨.base, Writer.pal 0⟩] := by decide
      rcases hw with ⟨e, he, h⟩ | ⟨e, he, h⟩ | ⟨e, he, h⟩ <;> rw [hp, List.mem_singleton] at he <;> subst he <;> cases h

-- memory: page 0 is SYS at construction, EXT is bound by 0xC0, U(0) by 0x10, vid[0] by 0x00 (page 2), CART by 0x08
theorem witness_MemrdAnswers :
    st.tagOf 0x0000 = .sys ∧ st.tagOf 0x3FFF = .sys ∧
      ((out 0x02 0xC0 st).tagOf 0xE000 = .ext ∧ tc1.mem.extSplit ≤ (offsetOf 0xE000).toNat) ∧
      tagCell (st.tagOf 0x7FFF) (offsetOf 0x7FFF) = some 0x7FFF ∧
      st.window tc1 ((out 0x02 0x08 st).tagOf 0x0000) (offsetOf 0x0000) = some none ∧
      (out 0x02 0xC0 st).window tc1 ((out 0x02 0xC0 st).tagOf 0xDFFF) (offsetOf 0xDFFF) = some none ∧
      (let s := installOp tc1 .cart (.dev (.other 8)) st
       s.window tc1 ((out 0x02 0x08 s).tagOf 0x0000) (offsetOf 0x0000) = some (some (.dev (.other 8)))) := by decide
theorem witness_MemwrStores :
    (out 0x02 0x10 st).MemoryOk ∧
      tagCell ((out 0x02 0x10 st).tagOf 0x0010) (offsetOf 0x0010) = some 0x0010 ∧
      tagCell ((out 0x02 0x10 st).tagOf 0x8010) (offsetOf 0x8010) = some 0x10010 := by decide
theorem witness_RomWritesDiscarded :
    st.tagOf 0x0010 = .sys ∧ (out 0x02 0xC0 st).tagOf 0xFFFF = .ext ∧ tc1.mem.extSplit ≤ (offsetOf 0xFFFF).toNat := by
  decide
theorem witness_DeviceAccess :
    let s := out 0x03 0x40 (out 0x02 0xC0 (installOp tc1 (.slot 1) (.dev (.other 2)) st))
    s.window tc1 (s.tagOf 0xC000) (offsetOf 0xC000) = some (some (.dev (.other 2))) ∧
      st.window tc1 .cart 0 = some none := by decide
theorem witness_DebugReads :
    0 * 0x4000 + 0xFFFF = (3 : Fin 4).val * 0x4000 + (0x3FFF : BitVec 14).toNat ∧
      0 < Config.cfg.vidBanks ∧ 0 * 0x4000 + 0x3FFF = 0 * 0x4000 + (0x3FFF : BitVec 14).toNat ∧
      storeSize Config.cfg st .userRam ≤ debugIndex (debugDesc Config.cfg st .userRam) 4 0 :=
  ⟨by decide, Nat.succ_pos _, by decide, by decide⟩
theorem witness_DebugWrites :
    st.MemoryOk ∧ 0 * 0x4000 + 0x4000 = (1 : Fin 4).val * 0x4000 + (0x0000 : BitVec 14).toNat ∧
      0 < Config.cfg.vidBanks ∧ 0 * 0x4000 + 0x3FFF = 0 * 0x4000 + (0x3FFF : BitVec 14).toNat ∧ 0x10000 ≤ 3 * 0x4000 + 0x4000 ∧
      Config.cfg.vidBanks * 0x4000 ≤ (Config.cfg.vidBanks - 1) * 0x4000 + 0x4000 :=
  ⟨by decide, by decide, Nat.succ_pos _, by decide, by decide, by omega⟩
theorem witness_PagingPortWrites :
    let s := st.setPaging { st.paging with bind := decodePages tc1 st.paging.port02 st.paging.port03 st.paging.pagePort3 }
    s.paging.bind = decodePages tc1 s.paging.port02 s.paging.port03 s.paging.pagePort3 ∧
      ∀ p : Fin 4, s.paging.bind.get p ≠ .ext := by decide
theorem witness_PageDecodeConstraints :
    (∀ p : Fin 4, decodePage tc1 0x00 0 0 p ≠ .ext) ∧ (2 : Fin 4) ≠ 1 ∧ pageField tc1 2 0x20 = pageField tc1 2 0xFF ∧ pageField tc1 1 0x04 = pageField tc1 1 0x05 ∧
      rawTag { tc1 with paging := { tcPaging with page2 := fun _ => none } } 0x00 0 0 2 = none ∧
      rawTag tc1 0x00 0 0 2 = some (.vid 0) ∧
      rawTag { tc1 with paging := { tcPaging with page2 := fun _ => some (.vid 1) } } 0x00 0 0 2 = some (.vid 1) := by
  decide

-- ports: slot 0x58 holds one reader, slot 0x00 one writer, slot 0x01 nothing, slot 0x10 the FDC's
theorem witness_RemovalTakesLast :
    (∀ e ∈ (st.slots.at 0xA0).readers, e.handler ≠ Reader.kbd) ∧ (∀ e ∈ (st.slots.at 0xA0).writers, e.handler ≠ Writer.border) ∧
      (∀ e ∈ (st.slots.at 0xA0).resets, e.handler ≠ Resetter.mapper) ∧
      (st.slots.at 0x58).readers.map Entry.handler = [] ++ .kbd :: [] ∧ (st.slots.at 0x00).writers.map Entry.handler = [] ++ .border :: [] ∧
      (st.slots.at 0x10).resets.map Entry.handler = [] ++ .fdc :: [] := by decide
theorem witness_PortReadChain :
    (st.slots.at ((0xFF01 : Word).extractLsb' 0 8)).readers = [] ∧
      (st.slots.at ((0xFF58 : Word).extractLsb' 0 8)).readers = [] ++ [⟨.base, Reader.kbd⟩] := by decide
theorem witness_PortWriteChain :
    (st.slots.at ((0xFF01 : Word).extractLsb' 0 8)).writers = [] ∧
      (st.slots.at ((0xFF06 : Word).extractLsb' 0 8)).writers = [⟨.base, Writer.gfxMode⟩] ++ [⟨.base, Writer.sndVol⟩] := by decide
theorem witness_PortRowsAreHandlers :
    (writerRow 7 .border = some (.outBorder 7) ∧ (st.slots.at 0x00).writers = [⟨.base, Writer.border⟩]) ∧
      (writerRow 7 (.pal 3) = some (.outPal3 7) ∧ (st.slots.at 0x63).writers = [⟨.base, Writer.pal 3⟩]) ∧
      readerRow .kbd = some .inKbd ∧ (st.slots.at 0x58).readers = [⟨.base, Reader.kbd⟩] := by decide
theorem witness_SystemPortsIdle : st.slots = Slots.construction tc1 := rfl

-- reset
theorem witness_ResetPaging :
    (∃ p : Byte, ⟨Owner.base, Resetter.mapper⟩ ∈ (st.slots.at p).resets) ∧ Instr.busreset ∈ [Instr.busreset, Instr.reset] ∧
      Instr.reset ∈ [Instr.busreset, Instr.reset] := ⟨⟨0x02, by decide⟩, by decide, by decide⟩
theorem witness_FdcResetHandler : ⟨Owner.slot 0, Resetter.fdc⟩ ∈ (st.slots.at 0x10).resets := by decide
theorem witness_ResetKeeps : ∀ p : Byte, ∀ e ∈ (st.slots.at p).resets, ∀ n : Nat, e.handler ≠ .ext n := by
  have h : ∀ p : Fin 256, ∀ e ∈ (st.slots.at (BitVec.ofFin p)).resets, e.handler = .mapper ∨ e.handler = .fdc := by
    decide +kernel
  intro p e he n hn
  rcases h p.toFin e he with h | h <;> rw [h] at hn <;> cases hn
theorem witness_SystemReads : ∀ k : Fin 4, bp.card.get k = none := by decide

-- video: line 2 is the first visible one and line 5 the last displayed one, line 1 and line 6 are border lines
theorem witness_RenderlinePixels :
    crtcValid tc1 vidSt.video = true ∧ tc1.video.firstVisible ≤ vidSt.video.line ∧
      vidSt.video.line < tc1.video.firstVisible + 4 * vidSt.video.displayedRows ∧
      5 < tc1.video.firstVisible + 4 * vidSt.video.displayedRows ∧ ¬1 ≥ tc1.video.firstVisible ∧
      ¬6 < tc1.video.firstVisible + 4 * vidSt.video.displayedRows ∧ tc1.video.gfxMode vidSt.video.gfxLatch = .m2 ∧
      tc1.video.gfxMode 1#8 = .m4 ∧ tc1.video.gfxMode 2#8 = .m16 ∧
      0 < tc1.video.leftBorder ∧ 1 < vidSt.video.displayedChars ∧ 0 < tc1.video.rightBorder := by decide

-- sound
theorem witness_CatchUpInSteps :
    let s := sndSt 0x1F
    (0 : Tick).toNat ≤ s.sound.sndTick.toNat ∧ s.sound.sndTick.toNat < (16 : Tick).toNat ∧
      (16 : Tick).toNat % tcS.prescale = 0 ∧ tcS.snd.enable s.sound.snd05 s.sound.snd06 = true ∧
      tcS.snd.enable (sndSt 0x0F).sound.snd05 s.sound.snd06 = false ∧
      s.sound.sndTick.toNat ≤ (0 : Tick).toNat ∧ (0 : Tick).toNat ≤ (128 : Tick).toNat ∧
      (0 : Tick).toNat ≤ st.xsnd4.tick.toNat ∧ st.xsnd4.tick.toNat < (1 : Tick).toNat ∧ (1 : Tick).toNat ≤ (9 : Tick).toNat := by
  decide
theorem witness_RenderAccumulates :
    ¬(sampleTick Config.cfg 0 ≤ st.now.toNat ∧ { st with sound := { st.sound with lastEnd := 1 } }.renderedTo .builtin ≤ 0) ∧
      sampleTick Config.cfg 0 ≤ st.now.toNat ∧ st.renderedTo .builtin ≤ 0 ∧
      (0 ≤ 0 ∧ 0 - 0 ≤ [((0 : Int), (0 : Int))].length) ∧ ¬(1 ≤ 0 ∧ 0 - 1 ≤ [((0 : Int), (0 : Int))].length) ∧
      [((0 : Int), (0 : Int))][0]? = some (0, 0) := by
  refine ⟨fun h => absurd h.2 (by decide), ?_, by decide, by decide, by decide, rfl⟩
  simp [sampleTick]
theorem witness_RenderSplit :
    let s := at' 128 (sndSt 0x1F)
    s.EventsOk ∧ 0 ≤ 4 ∧ 4 ≤ 8 ∧ (List.replicate 4 ((0 : Int), (0 : Int))).length = 4 - 0 ∧
      (List.replicate 4 ((0 : Int), (0 : Int))).length = 8 - 4 ∧ sampleTick tcS 8 ≤ s.now.toNat ∧ s.renderedTo .builtin ≤ 0 := by
  refine ⟨?_, by decide, by decide, rfl, rfl, by decide, by decide⟩
  simp [State.EventsOk, InOrder, at', sndSt, State.setNow, State.powerOn, Chip.powerOn]

-- the FDC: drive 0 holds TC1's image, drive 1 is absent
theorem witness_FdcStatusRead :
    fd.fdc.fmode = .typeI ∧ fd.fdc.fcur = some 0 ∧ (fd.fdc.drive.get 0).isSome = true ∧ (out 0x10 0x80 fd).fdc.fmode ≠ .typeI ∧
      ((stLines.slots.at ((0xAB14 : Word).extractLsb' 0 8)).readers.map Entry.handler = [.fdcLines]) := by
  decide
theorem witness_FdcBusyIgnores :
    (out 0x10 0x10 (out 0x13 0x05 fd)).fdc.fop ≠ .none ∧ (0xC0 : Byte).extractLsb' 4 4 ≠ 0b1101#4 ∧
      (0xE4 : Byte).extractLsb' 4 4 ≠ 0b1101#4 := by decide
theorem witness_FdcSeekFamilyStarts : fd.fdc.fop = .none ∧ fd.fdc.fcur.bind (fun k => fd.fdc.drive.get k) = fd.fdc.drive.get 0 :=
  ⟨by decide, rfl⟩
theorem witness_SeekCompletes :
    let f := (out 0x10 0x10 (out 0x13 0x05 fd)).fdc
    f.fopDrive = some 0 ∧ (f.drive.get 0).isSome = true ∧ ∀ k : Fin 4, ({ f with fopDrive := some 1 }).fopDrive = some k →
      f.drive.get k = none := by decide
theorem witness_SeekLaw :
    let s := out 0x13 0x05 fd
    s.fdc.fop = .none ∧ s.card.get 0 = some .fdc ∧ s.fdc.fcur = some 0 ∧
      s.fdc.drive.get 0 = some (Drive.powerOn ⟨⟨40, 1, 9, 512⟩, 40, some ⟨[0x11#8, 0x12#8, 0x13#8] ++ List.replicate 509 0x00#8, false⟩⟩) ∧
      s.fdc.ftr = 0#8 ∧ s.now.toNat + s.fdc.fdr.toNat * tc1.stepTicks 0 ≤ (93750 : Tick).toNat ∧
      s.lastPeriodic.toNat ≤ (93750 : Tick).toNat := by decide +kernel
theorem witness_FdcReadsec :
    let d := Drive.powerOn ⟨⟨40, 1, 9, 512⟩, 40, some ⟨[0x11#8, 0x12#8, 0x13#8] ++ List.replicate 509 0x00#8, false⟩⟩
    let s := out 0x12 9 fd
    fd.fdc.fop = .none ∧ fd.fdc.fcur = some 0 ∧ fd.fdc.drive.get 0 = some d ∧ fd.fdc.fsr.toNat = 0 ∧
      s.fdc.fop = .none ∧ s.fdc.fcur = some 0 ∧ s.fdc.drive.get 0 = some d ∧ s.fdc.ftr.toNat = d.logical ∧
      1 ≤ s.fdc.fsr.toNat ∧ s.fdc.fsr.toNat ≤ d.geom.sectorsPerTrack := by decide +kernel
theorem witness_FdcOtherCommands :
    fd.fdc.fop = .none ∧
      (∃ (k : Fin 4) (d : Drive) (im : Image), fd.fdc.fcur = some k ∧ fd.fdc.drive.get k = some d ∧ d.image = some im) ∧
      (out 0x14 0x01 fd).fdc.fop = .none ∧
      ¬∃ (k : Fin 4) (d : Drive) (im : Image), (out 0x14 0x01 fd).fdc.fcur = some k ∧ (out 0x14 0x01 fd).fdc.drive.get k = some d ∧
        d.image = some im := by
  refine ⟨by decide, ⟨0, _, _, by decide, rfl, rfl⟩, by decide, ?_⟩
  rintro ⟨k, d, i, h, h2, _⟩
  have hk : (out 0x14 0x01 fd).fdc.fcur = some 1 := by decide
  rw [hk] at h
  cases h
  have hd : (out 0x14 0x01 fd).fdc.drive.get 1 = none := by decide
  rw [hd] at h2
  cases h2
theorem witness_TrackBytes :
    let f := (out 0x10 0xC0 (at' 1000 fd)).fdc
    let g := (out 0x10 0xF0 (at' 1000 fd)).fdc
    let h := (fdcEdge tc1 625000 (g, 0)).1
    f.fop = .idReadWaitForIndex ∧ f.fopDrive = some 0 ∧ (f.drive.get 0).isSome = true ∧ g.fop = .trackWriteWaitForIndex ∧
      h.fop = .trackWriteGap ∧ h.fstart.toNat < (1250000 : Tick).toNat ∧ fd.fdc.fop = .none ∧
      (takeByte tc1 { h with fdr := 0xFE }).fop = .trackWriteIdAddr ∧
      (takeByte tc1 { h with fdr := 0xFB, fwId := [0, 0, 1, 2] }).fop = .trackWriteData := by decide +kernel
theorem witness_ByteStreaming :
    let f := (out 0x10 0x80 (at' 2000 (out 0x12 1 (at' 2000 fd)))).fdc
    let g : Fdc := { f with flast := 2000 }
    let w := (out 0x10 0xC0 (at' 1000 fd)).fdc
    let i : Fdc := { (fdcEdge tc1 625000 (w, 0)).1 with flast := 625000 }
    let v := (out 0x10 0xF0 (at' 1000 fd)).fdc
    let h : Fdc := { (fdcEdge tc1 625000 (v, 0)).1 with flast := 625000 }
    (f.fop = .sectorRead ∧ f.flast.toNat < f.fstart.toNat ∧ f.fstart.toNat ≤ (2100 : Tick).toNat ∧
        f.fidx = min f.fbuf.length ((f.flast.toNat - f.fstart.toNat) / tc1.byteTicks)) ∧
      g.fop = .sectorRead ∧ g.fstart.toNat ≤ (2100 : Tick).toNat ∧ g.flast.toNat ≤ (2100 : Tick).toNat ∧
      g.fidx = min g.fbuf.length ((g.flast.toNat - g.fstart.toNat) / tc1.byteTicks) ∧
      (w.fop = .idReadWaitForIndex ∧ w.flast.toNat ≤ (625000 : Tick).toNat) ∧
      (i.fop = .idRead ∧ i.fopDrive = some 0 ∧ (i.drive.get 0).isSome = true ∧
        i.fstart.toNat ≤ (625600 : Tick).toNat ∧ i.flast.toNat ≤ (625600 : Tick).toNat ∧
        i.fidx = min i.fbuf.length ((i.flast.toNat - i.fstart.toNat) / tc1.byteTicks)) ∧
      (v.fop = .trackWriteWaitForIndex ∧ v.flast.toNat ≤ (624999 : Tick).toNat) ∧
      h.fop = .trackWriteGap ∧ h.fstart.toNat ≤ h.flast.toNat ∧ h.flast.toNat ≤ (1250000 : Tick).toNat ∧
      h.fidx = (h.flast.toNat - h.fstart.toNat) / tc1.byteTicks := by decide +kernel
theorem witness_WriteSectorStores :
    let i : Image := ⟨[0x11#8, 0x12#8, 0x13#8] ++ List.replicate 509 0x00#8, false⟩
    let d := Drive.powerOn ⟨⟨40, 1, 9, 512⟩, 40, some i⟩
    let f : Fdc := { fd.fdc with fopDrive := some 0, fwId := [0, 0, 1, 2], fwSector := List.replicate 512 0xE5 }
    f.fopDrive = some 0 ∧ f.drive.get 0 = some d ∧ d.image = some i ∧ i.wp = false ∧ 1 ≤ (f.fwId.getD 2 0#8).toNat ∧
      (f.fwId.getD 2 0#8).toNat ≤ d.geom.sectorsPerTrack ∧ f.fwSector.length = d.geom.sectorLen ∧
      (d.logical * d.geom.sides * d.geom.sectorsPerTrack + f.fside.val * d.geom.sectorsPerTrack + 1) * d.geom.sectorLen ≤
        i.bytes.length := by decide +kernel

-- the backplane
theorem witness_InstallCard :
    bp.card.get 3 = none ∧ bp.installed .fdc = false ∧ (st.card.get 1 = none ∧ st.installed .fdc = true) := by decide
theorem witness_BackplaneCorners :
    st.card.get 0 = some .fdc ∧ { st with cart := some (.dev (.other 3)) }.cart = some (.dev (.other 3)) ∧ st.cart = none ∧
      st.card.get 3 = none ∧ ∀ k : Fin 4, st.card.get k ≠ some (.dev (.other 3)) := by decide
theorem witness_BackplaneCorners_calls :
    let s (n : Nat) : State := { st with cart := some (.dev (.other n)) }
    tc1.dev.removal 3 .cart ((s 3).core tc1 (.other 3)) (s 3).now = [] ∧
      ((s 3).afterRemove tc1 .cart (.dev (.other 3)) .host).sameHandlers (s 3).slots = true ∧
      ((s 11).afterRemove tc1 .cart (.dev (.other 11)) .host).sameHandlers (s 11).slots = false ∧
      (∀ q ∈ tc1.dev.removal 11 .cart ((s 11).core tc1 (.other 11)) (s 11).now, deregisters q = true) ∧
      undoReg (.addWriter 0x60 (.pal 0)) ∈ tc1.dev.removal 11 .cart ((s 11).core tc1 (.other 11)) (s 11).now ∧
      ∃ e ∈ ((s 11).slots.at 0x60).writers, e.handler = Writer.pal 0 := by decide +kernel
/-- A backplane with the host's own keyboard reader as the only handler. -/
def kbdOnly : State := { bp with slots := Slots.put (Vector.replicate 256 PortSlot.empty) 0x58 ⟨[⟨.host, .kbd⟩], [], []⟩ }
theorem kbdOnly_owners (c : Cfg) : kbdOnly.OwnersOk c := by
  intro n
  by_cases h : n = 0x58
  · subst h
    have hn : kbdOnly.slots.at 0x58 = ⟨[⟨.host, .kbd⟩], [], []⟩ := Slots.at_put _ _ _
    rw [hn]
    exact ⟨by simp [State.Rightful], nofun, nofun⟩
  · have hn : kbdOnly.slots.at n = PortSlot.empty := by
      rw [kbdOnly, Slots.at_put_other _ _ h]
      simp [Slots.at, Vector.get_eq_getElem]
    rw [hn]
    exact ⟨nofun, nofun, nofun⟩
theorem witness_InstallRemove :
    let calls (n : Nat) : List RegOp := tc1.dev.removal n (.slot 0) (kbdOnly.core tc1 (.other n)) kbdOnly.now
    let regs (n : Nat) : List RegOp := installRegs tc1 0 (.dev (.other n))
    kbdOnly.OwnersOk tc1 ∧ kbdOnly.card.get 0 = none ∧ kbdOnly.installed (.dev (.other 1)) = false ∧
      (calls 1).Perm ((regs 1).map undoReg) ∧
      ((∀ q ∈ calls 9, deregisters q = true) ∧
        (calls 9).count (undoReg (.addReader 0x10 (.dev (.other 9)))) < (regs 9).count (.addReader 0x10 (.dev (.other 9)))) ∧
      (∀ q ∈ calls 10, deregisters q = true) ∧
      (regs 10).count (.addReader 0x58 .kbd) < (calls 10).count (undoReg (.addReader 0x58 .kbd)) ∧
      ∃ e ∈ (kbdOnly.slots.at 0x58).readers, e.handler = Reader.kbd :=
  ⟨kbdOnly_owners _, by decide, by decide, by decide, by decide, by decide, by decide, by decide⟩
theorem witness_PeriodicEffect :
    ¬((50 : Tick) = (at' 100 st).now ∧ (at' 100 st).lastPeriodic.toNat ≤ (50 : Tick).toNat) ∧
      ((100 : Tick) = (at' 100 bp).now ∧ (at' 100 bp).lastPeriodic.toNat ≤ (100 : Tick).toNat) ∧
      ((100 : Tick) = (at' 100 st).now ∧ st.card.get 0 = some .fdc) ∧
      (∀ k : Fin 4, (at' 100 bp).card.get k ≠ some .fdc) ∧ (at' 100 bp).cart ≠ some .fdc ∧
      (∀ k : Fin 4, (at' 100 bp).card.get k = none) ∧ (at' 100 bp).cart = none := by decide

-- time
theorem witness_TicksAndEdges :
    tc1.clockHz % 1000 = 0 ∧ nextEdge tc1 0 < 2 ^ 64 ∧
      (624999 < 625000 ∧ 625000 % tc1.indexPeriod = 0) := by decide

end Sys2Proof.Tests
end

section
/-! PROOF. Decoding reads back what `encode` wrote, and what a step runs (10_state.md R31, R69, R70). -/

namespace Sys2Proof

/-! ### The rows of a port slot and of a command byte -/

/-- A command is read back from its byte (30_encoding.md R146). -/
theorem fdcCommandOf_byte (k : FdcCommand) : fdcCommandOf k.byte = k := by
  cases k with
  | restore h v r => revert h v r; decide
  | seek h v r => revert h v r; decide
  | step u h v r => revert u h v r; decide
  | stepin u h v r => revert u h v r; decide
  | stepout u h v r => revert u h v r; decide
  | readsec m sv e c x0 => revert m sv e c x0; decide
  | writesec m sv e c a0 => revert m sv e c a0; decide
  | readaddr x3 e x1 x0 => revert x3 e x1 x0; decide
  | forceint i => revert i; decide
  | readtrk x3 e x1 x0 => revert x3 e x1 x0; decide
  | writetrk x3 e x1 x0 => revert x3 e x1 x0; decide

/-- A card window's slot has the window's read row (R143). -/
theorem portReadRow_cardSlot (w : Fin 4) (k : Fin 16) (hi : Byte) :
    portReadRow (cardSlot w k) hi = some (.inCardwin w k hi) := by
  have hn := cardSlot_toNat w k
  have hw := w.isLt
  have hk := k.isLt
  unfold portReadRow
  split
  case h_6 =>
    rw [dif_pos (by omega)]
    simp only [Option.some.injEq, Instr.inCardwin.injEq, Fin.ext_iff, and_true]
    omega
  all_goals omega

/-- A card window's slot has the window's write row (R143). -/
theorem portWriteRow_cardSlot (w : Fin 4) (k : Fin 16) (hi v : Byte) :
    portWriteRow (cardSlot w k) hi v = some (.outCardwin w k hi v) := by
  have hn := cardSlot_toNat w k
  have hw := w.isLt
  have hk := k.isLt
  unfold portWriteRow
  split
  case h_14 =>
    rw [dif_pos (by omega)]
    simp only [Option.some.injEq, Instr.outCardwin.injEq, Fin.ext_iff, and_true]
    omega
  all_goals omega

/-! ### Operations -/

/-- Bytes whose operands are read to the end are the operation read. -/
theorem decode_cons {op : Byte} {l : List Byte} {i : Instr} (h : parseOperation op l = .ok (i, [])) :
    decode (op :: l) = .ok i := by
  simp only [decode, h]

/-- A port write row's bytes are that row. -/
theorem decode_portWrite {n hi v : Byte} {i : Instr} (h : portWriteRow n hi v = some i) :
    decode (encodePortWrite n hi v) = .ok i := by
  apply decode_cons
  simp [parseOperation, Parse.ofRow, h]

/-- A port read row's bytes are that row. -/
theorem decode_portRead {n hi : Byte} {i : Instr} (h : portReadRow n hi = some i) :
    decode (encodePortRead n hi) = .ok i := by
  apply decode_cons
  simp [parseOperation, Parse.ofRow, h]

/-- A command row's bytes are that row. -/
theorem decode_command (k : FdcCommand) : decode (encodeCommand k) = .ok k.toInstr := by
  apply decode_cons
  simp [parseOperation, fdcCommandOf_byte]

/-- A reader that takes all bytes hands its value to the next one with no byte left. -/
theorem Parse.andThen_all {α β : Type} {p : Parse α} {l : List Byte} {x : α} (f : α → Parse β)
    (h : ∀ r, p (l ++ r) = .ok (x, r)) : p.andThen f l = f x [] :=
  Parse.andThen_ok f (by simpa using h [])

/-- Every instruction is read back from its bytes (30_encoding.md R120, R155, log 1). -/
theorem decode_encode (i : Instr) : decode (encode i) = .ok i := by
  cases i with
  -- rows with a slot of the port map (R130, R143)
  | outBorder v | outPaging v | outExtsel v | outSndfreql v | outSndfreqh v | outSndvol v | outIntclr v | outPal0 v
  | outPal1 v | outPal2 v | outPal3 v | outCrtcaddr v | outCrtcdata v => exact decode_portWrite rfl
  | inKbd | inIntstat | inCardid | inAckstat | inCrtcdata => exact decode_portRead rfl
  | inCardwin w k hi => exact decode_portRead (portReadRow_cardSlot w k hi)
  | outCardwin w k hi v => exact decode_portWrite (portWriteRow_cardSlot w k hi v)
  -- command rows (R146)
  | fdcRestore h v r => exact decode_command (.restore h v r)
  | fdcSeek h v r => exact decode_command (.seek h v r)
  | fdcStep u h v r => exact decode_command (.step u h v r)
  | fdcStepin u h v r => exact decode_command (.stepin u h v r)
  | fdcStepout u h v r => exact decode_command (.stepout u h v r)
  | fdcReadsec m sv e c x0 => exact decode_command (.readsec m sv e c x0)
  | fdcWritesec m sv e c a0 => exact decode_command (.writesec m sv e c a0)
  | fdcReadaddr x3 e x1 x0 => exact decode_command (.readaddr x3 e x1 x0)
  | fdcForceint i => exact decode_command (.forceint i)
  | fdcReadtrk x3 e x1 x0 => exact decode_command (.readtrk x3 e x1 x0)
  | fdcWritetrk x3 e x1 x0 => exact decode_command (.writetrk x3 e x1 x0)
  -- operands that are an address
  | memrd a | portrd a =>
    apply decode_cons
    simp only [parseOperation]
    exact Parse.andThen_all _ (parseWord_encode a)
  | memwr a v | portwr a v =>
    apply decode_cons
    simp only [parseOperation]
    exact Parse.andThen_ok _ (parseWord_encode a [v])
  -- operands that are a number or a tick
  | mstoticks n | ustoticks n | tickstoms n => exact decode_cons (Parse.andThen_all _ (parseNat_encode n))
  | periodic t | tickssince t =>
    apply decode_cons
    simp only [parseOperation]
    exact Parse.andThen_all _ (parseTick_encode t)
  -- operands that name a handler, after a port number
  | addreader p h | removereader p h => exact decode_cons (Parse.andThen_all _ (parseReader_encode h))
  | addwriter p h | removewriter p h => exact decode_cons (Parse.andThen_all _ (parseWriter_encode h))
  | addreset p h | removereset p h => exact decode_cons (Parse.andThen_all _ (parseResetter_encode h))
  -- several operands
  | dbgrd d pg o =>
    apply decode_cons
    simp only [parseOperation, List.append_assoc]
    exact (Parse.andThen_ok _ (parseStore_encode d _)).trans
      ((Parse.andThen_ok _ (parseNat_encode pg _)).trans (Parse.andThen_all _ (parseNat_encode o)))
  | dbgwr d pg o v =>
    apply decode_cons
    simp only [parseOperation, List.append_assoc]
    exact (Parse.andThen_ok _ (parseStore_encode d _)).trans
      ((Parse.andThen_ok _ (parseNat_encode pg _)).trans (Parse.andThen_ok _ (parseNat_encode o _)))
  | render g buf b e =>
    apply decode_cons
    simp only [parseOperation, List.append_assoc]
    exact (Parse.andThen_ok _ (parseGen_encode g _)).trans
      ((Parse.andThen_ok _ (parseBuffer_encode buf _)).trans
        ((Parse.andThen_ok _ (parseNat_encode b _)).trans (Parse.andThen_all _ (parseNat_encode e))))
  | install k p =>
    exact decode_cons
      ((Parse.andThen_ok _ (parseSocket_encode k _)).trans (Parse.andThen_all _ (parsePeriph_encode p)))
  | remove k => exact decode_cons (Parse.andThen_all _ (parseSocket_encode k))
  -- no operand that is encoded, or bytes taken as they are
  | _ => rfl

end Sys2Proof

namespace Sys2Proof.Machine

/-- Settles O4: a call in time runs its operation once its inputs have taken effect. -/
theorem stepRunsDecoded : Obligations.StepRunsDecoded := by
  intro s k rest i hc ht hd
  have hin : k.inTime s = true := decide_eq_true ht
  have hop : k.operation = .ok i := by simp only [Call.operation, hd]
  simp only [step, hc, hin, hop, if_true]
  rfl

/-- Settles O5: a call handed over at the present time and keyboard matrix changes no input, and its bytes decode to the
instruction they encode. -/
theorem stepRunsHandedOver : Obligations.StepRunsHandedOver := by
  intro i s
  exact stepRunsDecoded (s.handOver (encode i)) ⟨s.now, s.kbd, encode i⟩ s.calls i rfl (Nat.le_refl _) (decode_encode i)

end Sys2Proof.Machine
end

section
/-! PROOF. What an operation can do, said once: `Effect c i s t`, with one constructor per shared operation that a row
of the dispatch ends in, and the inversion of `exec` by it. -/

namespace Sys2Proof.Machine

/-- The registration a registry row makes (41_portbus.md R193 to R198). -/
def registration : Instr → Option RegOp
  | .addreader p h => some (.addReader p h)
  | .addwriter p h => some (.addWriter p h)
  | .addreset p h => some (.addReset p h)
  | .removereader p h => some (.removeReader p h)
  | .removewriter p h => some (.removeWriter p h)
  | .removereset p h => some (.removeReset p h)
  | _ => none

/-- The rows that answer from the state and change nothing: the debug read and the timing facade. -/
def readsOnly : Instr → Prop
  | .dbgrd _ _ _ | .mstoticks _ | .ustoticks _ | .tickstoms _ | .getticks | .tickssince _ => True
  | _ => False

/-- The state after a RENDER that is not refused: the generator rendered, the snapshot handed over, and a draw taken
when the operands are out of range (44_sound.md R305, R307, log 35). -/
def rendered (c : Cfg) (g : Gen) (buf : List (Int × Int)) (b e : Nat) (s : State) : State :=
  let r := s.renderGen c g buf b e
  (r.2.setAudioOut (r.2.audioOut ++ [⟨g, b, e, renderBuffer c buf b e s.draws r.1⟩])).setDraws
    (if renderRange buf b e then s.draws else s.draws + 1)

/-- From state `s` the row `i` leads to the last argument, but for the answer it returns. -/
inductive Effect (c : Cfg) : Instr → State → State → Prop where
  | readsOnly {i : Instr} {s : State} (hi : readsOnly i) : Effect c i s s
  | memRead (a : Word) (s : State) : Effect c (.memrd a) s (memRead c a s).2
  | memWrite (a : Word) (v : Byte) (s : State) : Effect c (.memwr a v) s (memWrite c a v s)
  | debugWrite (d : DbgStore) (pg o : Nat) (v : Byte) (s : State) :
      Effect c (.dbgwr d pg o v) s (debugWrite c d pg o v s)
  | portRead {i : Instr} (a : Word) (s : State) (hi : readAddr i = some a) : Effect c i s (portRead c a s).2
  | portWrite {i : Instr} (a : Word) (v : Byte) (s : State) (hi : writeAddr i = some (a, v)) :
      Effect c i s (portWrite c a v s)
  | reader {i : Instr} (h : Reader) (s : State) (hi : readerRow h = some i) : Effect c i s (runReader c h 0#16 0#8 s).2
  | writer {i : Instr} (h : Writer) (v : Byte) (s : State) (hi : writerRow v h = some i) :
      Effect c i s (runWriter c h 0#16 v s)
  | page3 (v : Byte) (s : State) : Effect c (.outPage3 v) s (page3Write c v s)
  | command (k : FdcCommand) (s : State) : Effect c k.toInstr s (runCommand c k s)
  | register {i : Instr} (r : RegOp) (s : State) (hi : registration i = some r) : Effect c i s (register r s)
  | busReset (s : State) : Effect c .busreset s (busReset c s)
  | machineReset (s : State) : Effect c .reset s (machineReset c s)
  | renderLine (s : State) : Effect c .renderline s (renderLine c s)
  | render (g : Gen) (buf : List (Int × Int)) (b e : Nat) (s : State) (hr : s.canRender c g b e = true) :
      Effect c (.render g buf b e) s (rendered c g buf b e s)
  | renderRefused (g : Gen) (buf : List (Int × Int)) (b e : Nat) (s : State) (hr : s.canRender c g b e = false) :
      Effect c (.render g buf b e) s s.refuse
  | periodic (t : Tick) (s : State) : Effect c (.periodic t) s (periodicOp c t s)
  | install (k : Socket) (p : Periph) (s : State) : Effect c (.install k p) s (installOp c k p s)
  | remove (k : Socket) (s : State) : Effect c (.remove k) s (removeOp c k s)

/-- RENDER is carried out when it is in order, and refused otherwise. -/
theorem renderOp_effect (c : Cfg) (g : Gen) (buf : List (Int × Int)) (b e : Nat) (s : State) :
    ∃ (u : State) (x : Answer), Effect c (.render g buf b e) s u ∧ renderOp c g buf b e s = .next (u.setResult x) := by
  unfold renderOp
  split
  case isTrue hr => exact ⟨_, _, .render g buf b e s hr, rfl⟩
  case isFalse hr => exact ⟨_, _, .renderRefused g buf b e s (by simpa using hr), rfl⟩

/-- Every row of the dispatch answers a next state, by the operation it ends in. -/
theorem exec_effect (i : Instr) (s : State) :
    ∃ (u : State) (x : Answer), Effect Config.cfg i s u ∧ exec i s = .next (u.setResult x) := by
  cases i with
  | memrd a => exact ⟨_, _, .memRead a s, rfl⟩
  | memwr a v => exact ⟨_, _, .memWrite a v s, rfl⟩
  | dbgwr d pg o v => exact ⟨_, _, .debugWrite d pg o v s, rfl⟩
  | portrd a => exact ⟨_, _, .portRead a s rfl, rfl⟩
  | portwr a v => exact ⟨_, _, .portWrite a v s rfl, rfl⟩
  | inCardwin w k hi => exact ⟨_, _, .portRead (hi ++ cardSlot w k) s rfl, rfl⟩
  | outCardwin w k hi v => exact ⟨_, _, .portWrite (hi ++ cardSlot w k) v s rfl, rfl⟩
  | busreset => exact ⟨_, _, .busReset s, rfl⟩
  | reset => exact ⟨_, _, .machineReset s, rfl⟩
  | renderline => exact ⟨_, _, .renderLine s, rfl⟩
  | render g buf b e => exact renderOp_effect Config.cfg g buf b e s
  | periodic t => exact ⟨_, _, .periodic t s, rfl⟩
  | install k p => exact ⟨_, _, .install k p s, rfl⟩
  | remove k => exact ⟨_, _, .remove k s, rfl⟩
  | outPage3 v => exact ⟨_, _, .page3 v s, rfl⟩
  -- rows that answer from the state
  | dbgrd _ _ _ | mstoticks _ | ustoticks _ | tickstoms _ | getticks | tickssince _ =>
    exact ⟨s, _, .readsOnly trivial, rfl⟩
  -- registry rows
  | addreader _ _ | addwriter _ _ | addreset _ _ | removereader _ _ | removewriter _ _ | removereset _ _ =>
    exact ⟨_, _, .register _ s rfl, rfl⟩
  -- rows that are a reader's rule
  | inKbd => exact ⟨_, _, .reader .kbd s rfl, rfl⟩
  | inIntstat => exact ⟨_, _, .reader .intStat s rfl, rfl⟩
  | inCardid => exact ⟨_, _, .reader .cardId s rfl, rfl⟩
  | inAckstat => exact ⟨_, _, .reader .ackStat s rfl, rfl⟩
  | inCrtcdata => exact ⟨_, _, .reader .crtcData s rfl, rfl⟩
  | fdcStatusR => exact ⟨_, _, .reader .fdcStatus s rfl, rfl⟩
  | fdcTrackR => exact ⟨_, _, .reader .fdcTrack s rfl, rfl⟩
  | fdcSectorR => exact ⟨_, _, .reader .fdcSector s rfl, rfl⟩
  | fdcDataR => exact ⟨_, _, .reader .fdcData s rfl, rfl⟩
  -- rows that are a writer's rule
  | outBorder v => exact ⟨_, _, .writer .border v s rfl, rfl⟩
  | outPaging v => exact ⟨_, _, .writer .paging v s rfl, rfl⟩
  | outExtsel v => exact ⟨_, _, .writer .extSel v s rfl, rfl⟩
  | outSndfreql v => exact ⟨_, _, .writer .sndFreqL v s rfl, rfl⟩
  | outSndfreqh v => exact ⟨_, _, .writer .sndFreqH v s rfl, rfl⟩
  | outSndvol v => exact ⟨_, _, .writer .sndVol v s rfl, rfl⟩
  | outIntclr v => exact ⟨_, _, .writer .intClr v s rfl, rfl⟩
  | outPal0 v => exact ⟨_, _, .writer (.pal 0) v s rfl, rfl⟩
  | outPal1 v => exact ⟨_, _, .writer (.pal 1) v s rfl, rfl⟩
  | outPal2 v => exact ⟨_, _, .writer (.pal 2) v s rfl, rfl⟩
  | outPal3 v => exact ⟨_, _, .writer (.pal 3) v s rfl, rfl⟩
  | outCrtcaddr v => exact ⟨_, _, .writer .crtcAddr v s rfl, rfl⟩
  | outCrtcdata v => exact ⟨_, _, .writer .crtcData v s rfl, rfl⟩
  | outGfxmode v => exact ⟨_, _, .writer .gfxMode v s rfl, rfl⟩
  | fdcCmdW v => exact ⟨_, _, .writer .fdcCmd v s rfl, rfl⟩
  | fdcTrackW v => exact ⟨_, _, .writer .fdcTrack v s rfl, rfl⟩
  | fdcSectorW v => exact ⟨_, _, .writer .fdcSector v s rfl, rfl⟩
  | fdcDataW v => exact ⟨_, _, .writer .fdcData v s rfl, rfl⟩
  | fdcCtrlW v => exact ⟨_, _, .writer .fdcCtrl v s rfl, rfl⟩
  -- command rows
  | fdcRestore h v r => exact ⟨_, _, .command (.restore h v r) s, rfl⟩
  | fdcSeek h v r => exact ⟨_, _, .command (.seek h v r) s, rfl⟩
  | fdcStep u h v r => exact ⟨_, _, .command (.step u h v r) s, rfl⟩
  | fdcStepin u h v r => exact ⟨_, _, .command (.stepin u h v r) s, rfl⟩
  | fdcStepout u h v r => exact ⟨_, _, .command (.stepout u h v r) s, rfl⟩
  | fdcReadsec m sv e c x0 => exact ⟨_, _, .command (.readsec m sv e c x0) s, rfl⟩
  | fdcWritesec m sv e c a0 => exact ⟨_, _, .command (.writesec m sv e c a0) s, rfl⟩
  | fdcReadaddr x3 e x1 x0 => exact ⟨_, _, .command (.readaddr x3 e x1 x0) s, rfl⟩
  | fdcForceint i => exact ⟨_, _, .command (.forceint i) s, rfl⟩
  | fdcReadtrk x3 e x1 x0 => exact ⟨_, _, .command (.readtrk x3 e x1 x0) s, rfl⟩
  | fdcWritetrk x3 e x1 x0 => exact ⟨_, _, .command (.writetrk x3 e x1 x0) s, rfl⟩

/-- The inversion of `exec`: a next state is an effect of the row, with the answer stored. -/
theorem exec_next {i : Instr} {s t : State} (h : exec i s = .next t) :
    ∃ (u : State) (x : Answer), Effect Config.cfg i s u ∧ t = u.setResult x := by
  obtain ⟨u, x, hu, he⟩ := exec_effect i s
  rw [he] at h
  cases h
  exact ⟨u, x, hu, rfl⟩

end Sys2Proof.Machine
end

section
/-! PROOF. The fields that the remaining shared operations touch, and with them: no operation changes an input or what
was handed over (10_state.md R35, R71), and only a refused one sets the refusal mark (R78). -/

namespace Sys2Proof.Machine

/-! ### Frames -/

/-- MEMRD changes device state, or takes a draw. -/
theorem memRead_frame (c : Cfg) (a : Word) (s : State) :
    (memRead c a s).2 =
      { s with
        xsnd6 := (memRead c a s).2.xsnd6, xsnd4 := (memRead c a s).2.xsnd4
        others := (memRead c a s).2.others, draws := (memRead c a s).2.draws } :=
  tagRead_frame c (s.tagOf a) (offsetOf a) s

/-- MEMWR changes memory or device state. -/
theorem memWrite_frame (c : Cfg) (a : Word) (v : Byte) (s : State) :
    memWrite c a v s =
      { s with
        mem := (memWrite c a v s).mem, xsnd6 := (memWrite c a v s).xsnd6, xsnd4 := (memWrite c a v s).xsnd4
        others := (memWrite c a v s).others } :=
  tagWrite_frame c (s.tagOf a) (offsetOf a) v s

/-- A debug write touches memory only. -/
theorem debugWrite_frame (c : Cfg) (d : DbgStore) (pg o : Nat) (v : Byte) (s : State) :
    debugWrite c d pg o v s = { s with mem := (debugWrite c d pg o v s).mem } := by
  unfold debugWrite
  dsimp only
  split
  · cases d <;> rfl
  · rfl

/-- A painted line touches the video controller and the flip-flop only. -/
theorem paintValidLine_frame (c : Cfg) (s : State) :
    paintValidLine c s = { s with video := (paintValidLine c s).video, intFF := (paintValidLine c s).intFF } := by
  unfold paintValidLine
  dsimp only
  split <;> split <;> rfl

/-- The line index moving on touches the video controller and the frames handed over. -/
theorem advanceLine_frame (c : Cfg) (s : State) :
    advanceLine c s = { s with video := (advanceLine c s).video, frameOut := (advanceLine c s).frameOut } := by
  unfold advanceLine
  split <;> rfl

/-- The frames handed over stay, and one more may follow (43_video.md R269). -/
theorem advanceLine_frameOut (c : Cfg) (s : State) : s.frameOut <+: (advanceLine c s).frameOut := by
  unfold advanceLine
  split
  · exact List.prefix_append _ _
  · exact List.prefix_refl _

/-- What a RENDER changes but for the snapshot: the generators and the flip-flop. -/
theorem State.renderGen_frame (c : Cfg) (g : Gen) (buf : List (Int × Int)) (b e : Nat) (s : State) :
    (s.renderGen c g buf b e).2 =
      { s with
        intFF := (s.renderGen c g buf b e).2.intFF, sound := (s.renderGen c g buf b e).2.sound
        xsnd6 := (s.renderGen c g buf b e).2.xsnd6, xsnd4 := (s.renderGen c g buf b e).2.xsnd4 } := by
  cases g <;> rfl

/-- The cartridge's Reset changes the state of a device or of the FDC. -/
theorem cartReset_frame (c : Cfg) (s : State) :
    cartReset c s =
      { s with
        xsnd6 := (cartReset c s).xsnd6, xsnd4 := (cartReset c s).xsnd4, fdc := (cartReset c s).fdc
        others := (cartReset c s).others } := by
  unfold cartReset
  split
  · rw [devReset_frame]
  · rfl
  · rfl

/-- What INSTALL does (46_backplane.md R402): a refusal, or the fresh peripheral in the free slot with its
registrations, or in the free socket. -/
theorem installOp_cases (c : Cfg) (k : Socket) (p : Periph) (s : State) :
    installOp c k p s = s.refuse ∨
      (∃ j, k = .slot j ∧ s.card.get j = none ∧
        installOp c k p s =
          ((freshPeriph c p s).setCard ((freshPeriph c p s).card.set j.val (some p) j.isLt)).setSlots
            ((freshPeriph c p s).slots.install c j (some p))) ∨
      (k = .cart ∧ s.cart = none ∧ installOp c k p s = (freshPeriph c p s).setCart (some p)) := by
  cases k with
  | slot j =>
    simp only [installOp, installCard]
    split
    case h_1 => exact .inl rfl
    case h_2 hj => exact .inr (.inl ⟨j, rfl, hj, rfl⟩)
  | cart =>
    simp only [installOp, installCart]
    split
    case h_1 => exact .inl rfl
    case h_2 hk => exact .inr (.inr ⟨trivial, hk, rfl⟩)

/-- What INSTALL can change. -/
theorem installOp_frame (c : Cfg) (k : Socket) (p : Periph) (s : State) :
    installOp c k p s =
      { s with
        slots := (installOp c k p s).slots, xsnd6 := (installOp c k p s).xsnd6, xsnd4 := (installOp c k p s).xsnd4
        fdc := (installOp c k p s).fdc, card := (installOp c k p s).card, cart := (installOp c k p s).cart
        others := (installOp c k p s).others, refused := (installOp c k p s).refused
        draws := (installOp c k p s).draws } := by
  rcases installOp_cases c k p s with h | ⟨j, _, _, h⟩ | ⟨_, _, h⟩ <;> rw [h]
  · rfl
  · rw [freshPeriph_frame]; rfl
  · rw [freshPeriph_frame]; rfl

/-- What REMOVE does (R404): nothing on an empty place, a refusal when the Remove does not undo the Install, or the
peripheral dropped, from a slot with the entries it registered. -/
theorem removeOp_cases (c : Cfg) (k : Socket) (s : State) :
    removeOp c k s = s ∨ removeOp c k s = s.refuse ∨
      (∃ j p, k = .slot j ∧ s.card.get j = some p ∧
        (s.afterRemove c k p (.slot j)).sameHandlers (s.slots.without (.slot j)) = true ∧
        removeOp c k s =
          dropPeriph c p ((s.setCard (s.card.set j.val none j.isLt)).setSlots (s.slots.without (.slot j)))) ∨
      (∃ p, k = .cart ∧ s.cart = some p ∧ (s.afterRemove c k p .host).sameHandlers s.slots = true ∧
        removeOp c k s = dropPeriph c p (s.setCart none)) := by
  cases k with
  | slot j =>
    simp only [removeOp, removeCard]
    split
    case h_1 => exact .inl rfl
    case h_2 p hp =>
      split
      case isTrue hs => exact .inr (.inr (.inl ⟨j, p, rfl, hp, hs, rfl⟩))
      case isFalse => exact .inr (.inl rfl)
  | cart =>
    simp only [removeOp, removeCart]
    split
    case h_1 => exact .inl rfl
    case h_2 p hp =>
      split
      case isTrue hs => exact .inr (.inr (.inr ⟨p, trivial, hp, hs, rfl⟩))
      case isFalse => exact .inr (.inl rfl)

/-- What REMOVE can change. -/
theorem removeOp_frame (c : Cfg) (k : Socket) (s : State) :
    removeOp c k s =
      { s with
        slots := (removeOp c k s).slots, xsnd6 := (removeOp c k s).xsnd6, xsnd4 := (removeOp c k s).xsnd4
        fdc := (removeOp c k s).fdc, card := (removeOp c k s).card, cart := (removeOp c k s).cart
        others := (removeOp c k s).others, refused := (removeOp c k s).refused } := by
  rcases removeOp_cases c k s with h | h | ⟨j, p, _, _, _, h⟩ | ⟨p, _, _, _, h⟩ <;> rw [h]
  · rfl
  · rw [dropPeriph_frame]; rfl
  · rw [dropPeriph_frame]; rfl

/-! ### What every operation keeps -/

/-- From s to t no ROM, no time and no input changed, and what was handed over stayed (10_state.md R35, R71). -/
def State.KeepsInputs (s t : State) : Prop :=
  t.sysRom = s.sysRom ∧ t.extRom = s.extRom ∧ t.now = s.now ∧ t.kbd = s.kbd ∧ t.calls = s.calls ∧
    s.frameOut <+: t.frameOut ∧ s.audioOut <+: t.audioOut

theorem State.KeepsInputs.refl (s : State) : s.KeepsInputs s :=
  ⟨rfl, rfl, rfl, rfl, rfl, List.prefix_refl _, List.prefix_refl _⟩

theorem State.KeepsInputs.trans {s t u : State} (h : s.KeepsInputs t) (k : t.KeepsInputs u) : s.KeepsInputs u := by
  obtain ⟨hsys, hext, hnow, hkbd, hcalls, hframe, haudio⟩ := h
  obtain ⟨ksys, kext, know, kkbd, kcalls, kframe, kaudio⟩ := k
  exact ⟨ksys.trans hsys, kext.trans hext, know.trans hnow, kkbd.trans hkbd, kcalls.trans hcalls,
    hframe.trans kframe, haudio.trans kaudio⟩

/-- A reader keeps the inputs. -/
theorem runReader_keepsInputs (c : Cfg) (h : Reader) (a : Word) (v : Byte) (s : State) :
    s.KeepsInputs (runReader c h a v s).2 := by
  rw [runReader_frame]; exact .refl s

/-- A writer keeps the inputs. -/
theorem runWriter_keepsInputs (c : Cfg) (h : Writer) (a : Word) (v : Byte) (s : State) :
    s.KeepsInputs (runWriter c h a v s) := by
  rw [runWriter_frame]; exact .refl s

/-- A port read keeps the inputs. -/
theorem portRead_keepsInputs (c : Cfg) (a : Word) (s : State) : s.KeepsInputs (portRead c a s).2 :=
  readChain_keeps c a _ (fun e _ v _ hu => hu.trans (runReader_keepsInputs c e.handler a v _)) _ (.refl s)

/-- A port write keeps the inputs. -/
theorem portWrite_keepsInputs (c : Cfg) (a : Word) (v : Byte) (s : State) : s.KeepsInputs (portWrite c a v s) :=
  writeChain_keeps c a v _ (fun e _ _ hu => hu.trans (runWriter_keepsInputs c e.handler a v _)) _ (.refl s)

/-- BUSRESET keeps the inputs. -/
theorem busReset_keepsInputs (c : Cfg) (s : State) : s.KeepsInputs (busReset c s) :=
  resetChain_keeps c _ (fun e _ u hu => hu.trans (by rw [runReset_frame]; exact .refl u)) _ (.refl s)

/-- RESET keeps the inputs. -/
theorem machineReset_keepsInputs (c : Cfg) (s : State) : s.KeepsInputs (machineReset c s) := by
  refine (busReset_keepsInputs c s).trans ?_
  unfold machineReset
  rw [cartReset_frame]
  exact .refl _

/-- The peripherals' callbacks keep the inputs. -/
theorem periodicAll_keepsInputs (c : Cfg) (t : Tick) (s : State) : s.KeepsInputs (periodicAll c t s) :=
  periodicAll_keeps c t (fun _ hu => hu)
    (fun d u hu => hu.trans (by rw [devPeriodic_frame]; exact .refl u)) _ (.refl s)

/-- RENDERLINE keeps the inputs, and the frames handed over stay. -/
theorem renderLine_keepsInputs (c : Cfg) (s : State) : s.KeepsInputs (renderLine c s) := by
  have hadvance (u : State) : u.KeepsInputs (advanceLine c u) := by
    have hf := advanceLine_frameOut c u
    rw [advanceLine_frame]
    exact ⟨rfl, rfl, rfl, rfl, rfl, hf, List.prefix_refl _⟩
  refine State.KeepsInputs.trans ?_ (hadvance _)
  split
  · rw [paintValidLine_frame]; exact .refl s
  · exact .refl s

/-- RENDER keeps the inputs, and the snapshots handed over stay. -/
theorem rendered_keepsInputs (c : Cfg) (g : Gen) (buf : List (Int × Int)) (b e : Nat) (s : State) :
    s.KeepsInputs (rendered c g buf b e s) := by
  unfold rendered
  dsimp only
  rw [State.renderGen_frame]
  exact ⟨rfl, rfl, rfl, rfl, rfl, List.prefix_refl _, List.prefix_append _ _⟩

/-- Every effect of a row keeps the inputs. -/
theorem Effect.keepsInputs {c : Cfg} {i : Instr} {s t : State} (h : Effect c i s t) : s.KeepsInputs t := by
  cases h with
  | readsOnly _ | register _ _ _ | renderRefused _ _ _ _ _ _ => exact .refl s
  | memRead a => rw [memRead_frame]; exact .refl s
  | memWrite a v => rw [memWrite_frame]; exact .refl s
  | debugWrite d pg o v => rw [debugWrite_frame]; exact .refl s
  | portRead a => exact portRead_keepsInputs c a s
  | portWrite a v => exact portWrite_keepsInputs c a v s
  | reader h => exact runReader_keepsInputs c h _ _ s
  | writer h v => exact runWriter_keepsInputs c h _ v s
  | page3 v => exact runWriter_keepsInputs c .page3 0#16 v s
  | command k => rw [runCommand_frame]; exact .refl s
  | busReset => exact busReset_keepsInputs c s
  | machineReset => exact machineReset_keepsInputs c s
  | renderLine => exact renderLine_keepsInputs c s
  | render g buf b e => exact rendered_keepsInputs c g buf b e s
  | periodic t =>
    unfold periodicOp
    split
    · exact periodicAll_keepsInputs c t _
    · exact .refl s
  | install k p => rw [installOp_frame]; exact .refl s
  | remove k => rw [removeOp_frame]; exact .refl s

/-- Settles O11: each operation's frame leaves out the ROMs, the tick, the matrix and the calls, and RENDERLINE and RENDER
append to what was handed over. -/
theorem execKeepsInputs : Obligations.ExecKeepsInputs := by
  intro i s t h
  obtain ⟨u, x, hu, rfl⟩ := exec_next h
  exact hu.keepsInputs

/-! ### The refusal mark -/

/-- From s to t the refusal mark stayed as it was, or it is set and P holds. -/
def State.MarksOnly (P : Prop) (s t : State) : Prop := t.refused = s.refused ∨ (P ∧ t.refused = true)

theorem State.MarksOnly.trans {P : Prop} {s t u : State} (h : s.MarksOnly P t) (k : t.MarksOnly P u) :
    s.MarksOnly P u := by
  obtain k | k := k
  · obtain h | ⟨hp, h⟩ := h
    · exact .inl (k.trans h)
    · exact .inr ⟨hp, k.trans h⟩
  · exact .inr k

theorem State.MarksOnly.mono {P Q : Prop} {s t : State} (h : s.MarksOnly P t) (hpq : P → Q) : s.MarksOnly Q t :=
  h.imp_right fun ⟨hp, ht⟩ => ⟨hpq hp, ht⟩

/-- The commands without a rule's result are the refused ones (45_fdc.md R355, R372). -/
theorem refusedCommand_of_commandRule_none {c : Cfg} {now : Tick} {k : FdcCommand} {f : Fdc}
    (h : commandRule c now k f = none) : refusedCommand k = true := by
  cases k with
  | writesec | readtrk => rfl
  | readsec m sv e c x0 =>
    cases m with
    | true => rfl
    | false =>
      simp only [commandRule, fdcReadsec, Bool.false_eq_true, if_false] at h
      split at h
      · split at h <;> cases h
      · cases h
  | readaddr =>
    simp only [commandRule, fdcReadaddr] at h
    split at h <;> cases h
  | writetrk =>
    simp only [commandRule, fdcWritetrk] at h
    split at h <;> cases h
  | restore | seek | step | stepin | stepout | forceint => cases h

/-- A command sets the mark only when the spec refuses it. -/
theorem runCommand_marksOnly (c : Cfg) (k : FdcCommand) (s : State) :
    s.MarksOnly (refusedCommand k = true) (runCommand c k s) := by
  rcases runCommand_cases c k s with ⟨_, _, h⟩ | ⟨hr, h⟩ | ⟨f, _, h⟩ <;> rw [h]
  · exact .inl rfl
  · exact .inr ⟨refusedCommand_of_commandRule_none hr, rfl⟩
  · exact .inl rfl

/-- A writer sets the mark only when it is the FDC's command register and the byte a refused command. -/
theorem runWriter_marksOnly (c : Cfg) (h : Writer) (a : Word) (v : Byte) (s : State) :
    s.MarksOnly (h = .fdcCmd ∧ refusedCommand (fdcCommandOf v) = true) (runWriter c h a v s) := by
  cases h with
  | fdcCmd => exact (runCommand_marksOnly c _ s).mono fun hr => ⟨rfl, hr⟩
  | dev d => simp only [runWriter]; rw [devPortWrite_frame]; exact .inl rfl
  | crtcData => simp only [runWriter, crtcDataWrite]; split <;> exact .inl rfl
  | page3 => simp only [runWriter, page3Write]; split <;> exact .inl rfl
  | _ => exact .inl rfl

/-- A port write sets the mark only where the FDC's command register stands, with a refused command. -/
theorem portWrite_marksOnly (c : Cfg) (a : Word) (v : Byte) (s : State) :
    s.MarksOnly (s.writes a .fdcCmd ∧ refusedCommand (fdcCommandOf v) = true) (portWrite c a v s) :=
  writeChain_keeps c a v _
    (fun e he _ hu => hu.trans ((runWriter_marksOnly c e.handler a v _).mono fun ⟨hc, hr⟩ => ⟨⟨e, he, hc⟩, hr⟩)) _
    (.inl rfl)

/-- A port read leaves the mark. -/
theorem portRead_refused (c : Cfg) (a : Word) (s : State) : (portRead c a s).2.refused = s.refused :=
  readChain_keeps (P := fun u => u.refused = s.refused) c a _
    (fun e _ v u hu => by rw [runReader_frame]; exact hu) _ rfl

/-- BUSRESET leaves the mark. -/
theorem busReset_refused (c : Cfg) (s : State) : (busReset c s).refused = s.refused :=
  resetChain_keeps (P := fun u => u.refused = s.refused) c _ (fun e _ u hu => by rw [runReset_frame]; exact hu) _ rfl

/-- RESET leaves the mark. -/
theorem machineReset_refused (c : Cfg) (s : State) : (machineReset c s).refused = s.refused := by
  unfold machineReset
  rw [cartReset_frame]
  exact busReset_refused c s

/-- The peripherals' callbacks leave the mark. -/
theorem periodicAll_refused (c : Cfg) (t : Tick) (s : State) : (periodicAll c t s).refused = s.refused :=
  periodicAll_keeps (P := fun u => u.refused = s.refused) c t (fun _ hu => hu)
    (fun d u hu => by rw [devPeriodic_frame]; exact hu) _ rfl

/-- A RENDER that is not refused leaves the mark. -/
theorem rendered_refused (c : Cfg) (g : Gen) (buf : List (Int × Int)) (b e : Nat) (s : State) :
    (rendered c g buf b e s).refused = s.refused := by
  unfold rendered
  dsimp only
  rw [State.renderGen_frame]
  rfl

/-- INSTALL leaves the mark or sets it. -/
theorem installOp_marksOnly (c : Cfg) (k : Socket) (p : Periph) (s : State) : s.MarksOnly True (installOp c k p s) := by
  rcases installOp_cases c k p s with h | ⟨j, _, _, h⟩ | ⟨_, _, h⟩ <;> rw [h]
  · exact .inr ⟨trivial, rfl⟩
  · rw [freshPeriph_frame]; exact .inl rfl
  · rw [freshPeriph_frame]; exact .inl rfl

/-- REMOVE leaves the mark or sets it. -/
theorem removeOp_marksOnly (c : Cfg) (k : Socket) (s : State) : s.MarksOnly True (removeOp c k s) := by
  rcases removeOp_cases c k s with h | h | ⟨j, p, _, _, _, h⟩ | ⟨p, _, _, _, h⟩ <;> rw [h]
  · exact .inl rfl
  · exact .inr ⟨trivial, rfl⟩
  · rw [dropPeriph_frame]; exact .inl rfl
  · rw [dropPeriph_frame]; exact .inl rfl

/-- PERIODIC leaves the mark or sets it. -/
theorem periodicOp_marksOnly (c : Cfg) (t : Tick) (s : State) : s.MarksOnly True (periodicOp c t s) := by
  unfold periodicOp
  split
  · exact .inl (periodicAll_refused c t _)
  · exact .inr ⟨trivial, rfl⟩

/-- RENDERLINE leaves the mark. -/
theorem renderLine_refused (c : Cfg) (s : State) : (renderLine c s).refused = s.refused := by
  unfold renderLine
  rw [advanceLine_frame]
  dsimp only
  split
  · rw [paintValidLine_frame]
  · rfl

/-- A command row the spec refuses is among the refused operations. -/
theorem mayRefuse_command {k : FdcCommand} (s : State) (h : refusedCommand k = true) : mayRefuse s k.toInstr := by
  cases k with
  | readsec m sv e c x0 => exact .inl h
  | writesec | readtrk => exact .inl trivial
  | _ => cases h

/-- Every effect of a row sets the mark only where the spec lets the row be refused (60_exceptions.md R452). -/
theorem Effect.marksOnly {c : Cfg} {i : Instr} {s t : State} (h : Effect c i s t) : s.MarksOnly (mayRefuse s i) t := by
  cases h with
  | readsOnly _ | register _ _ _ => exact .inl rfl
  | memRead a => rw [memRead_frame]; exact .inl rfl
  | memWrite a v => rw [memWrite_frame]; exact .inl rfl
  | debugWrite d pg o v => rw [debugWrite_frame]; exact .inl rfl
  | portRead a => exact .inl (portRead_refused c a s)
  | portWrite a v _ hi => exact (portWrite_marksOnly c a v s).mono fun ⟨hw, hr⟩ => .inr ⟨a, v, hi, hw, hr⟩
  | reader h => rw [runReader_frame]; exact .inl rfl
  | writer h v _ hi =>
    refine (runWriter_marksOnly c h 0#16 v s).mono fun ⟨hc, hr⟩ => ?_
    subst hc
    cases hi
    exact .inl hr
  | page3 v => exact (runWriter_marksOnly c .page3 0#16 v s).mono fun ⟨hc, _⟩ => nomatch hc
  | command k => exact (runCommand_marksOnly c k s).mono (mayRefuse_command s)
  | busReset => exact .inl (busReset_refused c s)
  | machineReset => exact .inl (machineReset_refused c s)
  | renderLine => exact .inl (renderLine_refused c s)
  | render g buf b e => exact .inl (rendered_refused c g buf b e s)
  | renderRefused g buf b e => exact .inr ⟨.inl trivial, rfl⟩
  | periodic t => exact (periodicOp_marksOnly c t s).mono fun _ => .inl trivial
  | install k p => exact (installOp_marksOnly c k p s).mono fun _ => .inl trivial
  | remove k => exact (removeOp_marksOnly c k s).mono fun _ => .inl trivial

/-- Settles O12: each effect leaves the mark, or sets it where the row or the port write may be refused. -/
theorem refusalMark : Obligations.RefusalMark := by
  intro i s t h
  obtain ⟨u, x, hu, rfl⟩ := exec_next h
  show (s.refused = true → u.refused = true) ∧ (s.refused = false → u.refused = true → mayRefuse s i)
  obtain hm | ⟨hp, hm⟩ := hu.marksOnly
  · exact ⟨fun hs => hm.trans hs, fun hs ht => absurd (ht.symm.trans (hm.trans hs)) (by decide)⟩
  · exact ⟨fun _ => hm, fun _ _ => hp⟩

end Sys2Proof.Machine
end

section
/-! PROOF. The recorded levels of the three sound generators stay in order through catch-up, records and RENDER
(44_sound.md R299, R302, R303, R305), and the postscalers below their period (10_state.md R52). -/

namespace Sys2Proof.Machine

/-! ### Levels in order -/

/-- No level is in order. -/
theorem InOrder.nil {α : Type} (t : Tick) : InOrder ([] : List (Tick × α)) t := ⟨.nil, nofun⟩

/-- Levels in order up to a tick are in order up to a later one. -/
theorem InOrder.mono {α : Type} {l : List (Tick × α)} {u t : Tick} (h : InOrder l u) (hut : u.toNat ≤ t.toNat) :
    InOrder l t :=
  ⟨h.1, fun e he => (h.2 e he).trans hut⟩

/-- A level recorded at a tick that all others have reached keeps the order. -/
theorem InOrder.append {α : Type} {l : List (Tick × α)} {t : Tick} (h : InOrder l t) (v : α) :
    InOrder (l ++ [(t, v)]) t := by
  refine ⟨List.pairwise_append.2 ⟨h.1, List.pairwise_singleton _ _, ?_⟩, ?_⟩
  · intro a ha b hb
    rw [List.mem_singleton.1 hb]
    exact h.2 a ha
  · intro e he
    rcases List.mem_append.1 he with he | he
    · exact h.2 e he
    · rw [List.mem_singleton.1 he]

/-- Levels dropped leave the rest in order. -/
theorem InOrder.filter {α : Type} {l : List (Tick × α)} {t : Tick} (h : InOrder l t) (p : Tick × α → Bool) :
    InOrder (l.filter p) t :=
  ⟨h.1.filter p, fun e he => h.2 e (List.mem_filter.1 he).1⟩

/-! ### The built-in generator -/

/-- The invariant's share of the built-in generator at tick `now`. -/
structure Sound.Ok (c : Cfg) (now : Tick) (x : Sound) : Prop where
  post : x.PostOk c
  inOrder : InOrder x.sndEvents x.sndTick
  tick : x.sndTick.toNat ≤ now.toNat

/-- A channel step keeps the postscalers below their period. -/
theorem stepChannel_postOk (c : Cfg) (t : Tick) (i : Fin 2) (x : Sound × Bool) (h : x.1.PostOk c) :
    (stepChannel c t i x).1.PostOk c := by
  intro j
  have hj := h j
  simp only [stepChannel]
  split
  · simp only [recordLevel, Vector.get_eq_getElem, Vector.getElem_set]
    split
    · exact Nat.mod_lt _ (Nat.succ_pos _)
    · exact hj
  · simp only [Vector.get_eq_getElem, Vector.getElem_set]
    split
    · exact h i
    · exact hj

/-- The catch-up keeps the postscalers below their period. -/
theorem soundAdvance_postOk (c : Cfg) (t : Tick) (x : Sound × Bool) (h : x.1.PostOk c) :
    (soundAdvance c t x).1.PostOk c :=
  soundAdvance_keeps (P := fun x => x.1.PostOk c) c
    (fun u => soundStep_keeps (P := fun x => x.1.PostOk c) c u (stepChannel_postOk c u)) (fun _ _ hx => hx) t x h

/-- A counter step records at its own tick only. -/
theorem soundStep_inOrder (c : Cfg) (t : Tick) (x : Sound × Bool) (h : InOrder x.1.sndEvents t) :
    InOrder (soundStep c t x).1.sndEvents t := by
  refine soundStep_keeps (P := fun x => InOrder x.1.sndEvents t) c t (fun i y hy => ?_) x h
  rcases stepChannel_events c t i y with he | ⟨v, he⟩ <;> rw [he]
  · exact hy
  · exact hy.append v

/-- Counter steps that start after the recorded levels and end by tick t leave them in order up to t. -/
theorem soundSteps_inOrder (c : Cfg) {t : Tick} (n k : Nat) (x : Sound × Bool) {u : Tick}
    (h : InOrder x.1.sndEvents u) (hut : u.toNat ≤ t.toNat) (huk : u.toNat ≤ k * c.prescale)
    (hkt : (k + n) * c.prescale ≤ t.toNat + c.prescale) : InOrder (soundSteps c n k x).1.sndEvents t := by
  induction n generalizing k x u with
  | zero => exact h.mono hut
  | succ n ih =>
    have hle : (k + 1) * c.prescale ≤ (k + (n + 1)) * c.prescale := Nat.mul_le_mul_right _ (by omega)
    have hk1 : (k + 1) * c.prescale = k * c.prescale + c.prescale := Nat.succ_mul _ _
    have ht := t.isLt
    have hv : (BitVec.ofNat 64 (k * c.prescale)).toNat = k * c.prescale := by
      rw [BitVec.toNat_ofNat]; exact Nat.mod_eq_of_lt (by omega)
    exact ih (k + 1) _ (soundStep_inOrder c _ x (h.mono (by omega))) (by omega) (by omega)
      (by rw [Nat.add_assoc, Nat.add_comm 1 n]; exact hkt)

/-- A catch-up to a tick not before the last one ends at that tick. -/
theorem soundAdvance_tick (c : Cfg) {t : Tick} {x : Sound × Bool} (h : x.1.sndTick.toNat ≤ t.toNat) :
    (soundAdvance c t x).1.sndTick = t := by
  rw [soundAdvance, if_neg (by omega)]

/-- A catch-up keeps the recorded levels in order up to the catch-up tick (R299, R302). -/
theorem soundAdvance_inOrder (c : Cfg) (t : Tick) (x : Sound × Bool) (h : InOrder x.1.sndEvents x.1.sndTick) :
    InOrder (soundAdvance c t x).1.sndEvents (soundAdvance c t x).1.sndTick := by
  unfold soundAdvance
  split
  · exact h
  · have hp : 0 < c.prescale := Nat.succ_pos _
    have hd : x.1.sndTick.toNat / c.prescale ≤ t.toNat / c.prescale := Nat.div_le_div_right (by omega)
    have hm : t.toNat / c.prescale * c.prescale ≤ t.toNat := Nat.div_mul_le_self _ _
    have hu := Nat.lt_div_mul_add (a := x.1.sndTick.toNat) hp
    have hn : x.1.sndTick.toNat / c.prescale + 1 + (t.toNat / c.prescale - x.1.sndTick.toNat / c.prescale) =
        t.toNat / c.prescale + 1 := by omega
    refine soundSteps_inOrder (t := t) c _ _ x h (by omega) ?_ ?_
    · rw [Nat.succ_mul]; omega
    · rw [hn, Nat.succ_mul]; omega

/-- A catch-up to a tick that has come keeps the generator's share of the invariant. -/
theorem soundAdvance_ok {c : Cfg} {now t : Tick} {x : Sound × Bool} (h : x.1.Ok c now) (ht : t.toNat ≤ now.toNat) :
    (soundAdvance c t x).1.Ok c now := by
  refine ⟨soundAdvance_postOk c t x h.post, soundAdvance_inOrder c t x h.inOrder, ?_⟩
  rcases Nat.le_total x.1.sndTick.toNat t.toNat with hx | hx
  · rw [soundAdvance_tick c hx]; exact ht
  · unfold soundAdvance
    split
    · exact h.tick
    · exact ht

/-- A RENDER consumes levels and keeps the generator's share of the invariant. -/
theorem Sound.render_ok {c : Cfg} {now : Tick} {x : Sound} (buf : List (Int × Int)) (b e : Nat) (h : x.Ok c now) :
    (x.render c buf b e).2.Ok c now :=
  ⟨h.post, h.inOrder.filter _, h.tick⟩

/-! ### The expansion chips -/

/-- The invariant's share of a sound chip at tick `now`. -/
structure Chip.Ok (now : Tick) (x : Chip) : Prop where
  inOrder : InOrder x.events x.tick
  tick : x.tick.toNat ≤ now.toNat

/-- A chip at power-on has recorded nothing. -/
theorem Chip.powerOn_ok (c : Cfg) (d : Dev) (now : Tick) : (Chip.powerOn c d now).Ok now := ⟨.nil _, Nat.le_refl _⟩

/-- A chip step records at its own tick only. -/
theorem chipStep_inOrder (c : Cfg) (d : Dev) (t : Tick) (x : Chip) (h : InOrder x.events t) :
    InOrder (chipStep c d t x).events t := by
  unfold chipStep
  dsimp only
  split
  · exact h
  · exact h.append _

/-- Chip steps that start after the recorded levels and end by tick t leave them in order up to t. -/
theorem chipSteps_inOrder (c : Cfg) (d : Dev) {t : Tick} (n k : Nat) (x : Chip) {u : Tick} (h : InOrder x.events u)
    (hut : u.toNat ≤ t.toNat) (huk : u.toNat ≤ k) (hkt : k + n ≤ t.toNat + 1) :
    InOrder (chipSteps c d n k x).events t := by
  induction n generalizing k x u with
  | zero => exact h.mono hut
  | succ n ih =>
    have ht := t.isLt
    have hv : (BitVec.ofNat 64 k).toNat = k := by
      rw [BitVec.toNat_ofNat]; exact Nat.mod_eq_of_lt (by omega)
    exact ih (k + 1) _ (chipStep_inOrder c d _ x (h.mono (by omega))) (by omega) (by omega) (by omega)

/-- A catch-up to a tick not before the last one ends at that tick. -/
theorem chipAdvance_tick (c : Cfg) (d : Dev) {t : Tick} {x : Chip} (h : x.tick.toNat ≤ t.toNat) :
    (chipAdvance c d t x).tick = t := by
  rw [chipAdvance, if_neg (by omega)]

/-- A catch-up to a tick that has come keeps the chip's share of the invariant (R312, R313). -/
theorem chipAdvance_ok {c : Cfg} {d : Dev} {now t : Tick} {x : Chip} (h : x.Ok now) (ht : t.toNat ≤ now.toNat) :
    (chipAdvance c d t x).Ok now := by
  unfold chipAdvance
  split
  · exact h
  · exact ⟨chipSteps_inOrder (t := t) c d _ _ x h.inOrder (by omega) (by omega) (by omega), ht⟩

/-- An access to a chip, which catches it up to the present, keeps its share of the invariant whatever it leaves as core
and registers: the level is recorded at the present (R313, log 17). -/
theorem chipAccess_ok {c : Cfg} {d : Dev} {now : Tick} {x : Chip} (h : x.Ok now) (core : Nat) (w : List ToneWrite) :
    (chipRecord c d now (Chip.write w { chipAdvance c d now x with core := core })).Ok now := by
  have ht := chipAdvance_tick c d h.tick
  have ho := (chipAdvance_ok (c := c) (d := d) h (Nat.le_refl _)).inOrder
  rw [ht] at ho
  refine ⟨?_, Nat.le_of_eq (congrArg BitVec.toNat ht)⟩
  show InOrder ((chipAdvance c d now x).events ++ [(now, c.dev.chipLevel d core)]) (chipAdvance c d now x).tick
  rw [ht]
  exact ho.append _

/-- A RENDER consumes levels and keeps the chip's share of the invariant. -/
theorem Chip.render_ok {c : Cfg} {now : Tick} {x : Chip} (buf : List (Int × Int)) (b e : Nat) (h : x.Ok now) :
    (x.render c buf b e).2.Ok now :=
  ⟨h.inOrder.filter _, h.tick⟩

end Sys2Proof.Machine
end

section
/-! PROOF. Every rule of the FDC keeps the heads on their tracks and the two flags that stay false (10_state.md R59, R76
(c), 92 D36). -/

namespace Sys2Proof.Machine

/-- The invariant's share of the FDC. It reads the drives and two flags only, so an update of the other registers keeps it
by definition. -/
def Fdc.Ok (f : Fdc) : Prop := f.HeadsOk ∧ f.FlagsOk

/-! ### Drives -/

/-- A drive replaced by one whose head is on its tracks. -/
theorem Fdc.Ok.setDrive {f : Fdc} (h : f.Ok) (k : Fin 4) {d : Drive} (hd : d.OnDisk) : (f.setDrive k d).Ok := by
  refine ⟨fun j e he => ?_, h.2⟩
  simp only [Fdc.setDrive, Vector.get_eq_getElem, Vector.getElem_set] at he
  split at he
  · cases he; exact hd
  · exact h.1 j e he

/-- The current drive's head is on its tracks. -/
theorem Fdc.Ok.current {f : Fdc} (h : f.Ok) {d : Drive} (hd : f.current = some d) : d.OnDisk := by
  obtain ⟨k, -, hk⟩ := Option.bind_eq_some_iff.1 hd
  exact h.1 k d hk

/-- A change of the operating drive that keeps heads on their tracks. -/
theorem Fdc.Ok.overOperating {f : Fdc} (h : f.Ok) {g : Drive → Drive} (hg : ∀ d, d.OnDisk → (g d).OnDisk) :
    (f.overOperating g).Ok := by
  unfold Fdc.overOperating
  split
  case h_1 k d _ hd =>
    obtain ⟨j, -, hj⟩ := Option.bind_eq_some_iff.1 hd
    exact h.setDrive k (hg d (h.1 j d hj))
  case h_2 => exact h

/-! ### Commands -/

/-- The end of a seek clamps the head to its tracks (45_fdc.md R350). -/
theorem Fdc.Ok.seekComplete {f : Fdc} (h : f.Ok) (n : Int) (t' : Byte) : (seekComplete n t' f).Ok :=
  h.overOperating fun d _ => Drive.step_le n d

/-- The start of a Type-I command. -/
theorem Fdc.Ok.typeIStart {f : Fdc} (h : f.Ok) (c : Cfg) (now : Tick) (hl : Bool) (r : BitVec 2) (n : Int) (t' : Byte) :
    (typeIStart c now hl r n t' f).Ok := by
  unfold Machine.typeIStart
  dsimp only
  split
  · exact Fdc.Ok.seekComplete (f := { f with fmode := .typeI, headLoad := hl, rnf := false }) h n t'
  · exact h

/-- The start of a step. -/
theorem Fdc.Ok.stepStart {f : Fdc} (h : f.Ok) (c : Cfg) (now : Tick) (u hl : Bool) (r : BitVec 2) (dir : StepDir) :
    (stepStart c now u hl r dir f).Ok := by
  cases dir with
  | inward => exact h.typeIStart c now hl r _ _
  | outward => exact h.typeIStart c now hl r _ _

/-- A sector read moves no head. -/
theorem fdcReadsec_ok {now : Tick} {m : Bool} {f g : Fdc} (h : f.Ok) (hg : fdcReadsec now m f = some g) : g.Ok := by
  have hc : Fdc.Ok { f with fmode := .typeII, rnf := false, lostData := false, drq := false } := ⟨h.1, h.2.1, rfl⟩
  unfold fdcReadsec at hg
  dsimp only at hg
  split at hg
  · cases hg
  · split at hg
    case h_1 k d i _ hd _ =>
      split at hg
      · cases hg
        exact hc.setDrive k (d := { d with sector := f.fsr.toNat }) (h.current (d := d) hd)
      · cases hg; exact hc
    case h_2 => cases hg; exact hc

/-- Every command that runs keeps the FDC's share of the invariant. -/
theorem commandRule_ok {c : Cfg} {now : Tick} {k : FdcCommand} {f g : Fdc} (h : f.Ok)
    (hg : commandRule c now k f = some g) : g.Ok := by
  cases k with
  | restore hl v r => cases hg; exact h.typeIStart c now hl r _ _
  | seek hl v r => cases hg; exact Fdc.Ok.typeIStart (f := { f with ftarget := f.fdr }) h c now hl r _ _
  | step u hl v r => cases hg; exact h.stepStart c now u hl r _
  | stepin u hl v r => cases hg; exact Fdc.Ok.stepStart (f := { f with fstepDir := .inward }) h c now u hl r _
  | stepout u hl v r => cases hg; exact Fdc.Ok.stepStart (f := { f with fstepDir := .outward }) h c now u hl r _
  | readsec m sv e c x0 => exact fdcReadsec_ok h hg
  | writesec | readtrk => cases hg
  | readaddr =>
    simp only [commandRule, fdcReadaddr] at hg
    split at hg <;> cases hg <;> exact h
  | writetrk =>
    simp only [commandRule, fdcWritetrk] at hg
    split at hg <;> cases hg <;> exact ⟨h.1, h.2.1, rfl⟩
  | forceint => cases hg; exact h

/-! ### The periodic callback -/

/-- A sector written changes an image and moves no head. -/
theorem Fdc.Ok.writeSector {f : Fdc} (h : f.Ok) : (writeSector f).Ok := by
  refine h.overOperating fun d hd => ?_
  split
  · split <;> exact hd
  · exact hd

/-- A byte of a track write interpreted. -/
theorem Fdc.Ok.interpretByte {f : Fdc} (h : f.Ok) (b : Byte) : (interpretByte b f).Ok := by
  unfold Machine.interpretByte
  dsimp only
  split
  case h_1 =>
    split
    · exact h
    · split <;> exact h
  case h_3 =>
    split
    · exact Fdc.Ok.writeSector (f := { f with fwSector := f.fwSector ++ [b] }) h
    · exact h
  all_goals exact h

/-- `P_LOST_DATA` is false, so a byte slot that was missed sets no flag (92 D36). -/
theorem lostData_missed {f : Fdc} (h : f.Ok) (c : Cfg) : (f.lostData || (f.drq && c.lostData)) = false := by
  simp [h.2.2, Cfg.lostData]

/-- A byte deadline keeps the FDC's share of the invariant. -/
theorem Fdc.Ok.fdcByte {f : Fdc} (h : f.Ok) (c : Cfg) : (fdcByte c f).Ok := by
  have hl := lostData_missed h c
  unfold Machine.fdcByte
  split
  case h_1 | h_2 => exact ⟨h.1, h.2.1, hl⟩
  case h_3 | h_4 | h_5 =>
    exact Fdc.Ok.interpretByte
      (f := { f with lostData := f.lostData || (f.drq && c.lostData), drq := true, fidx := f.fidx + 1 })
      ⟨h.1, h.2.1, hl⟩ f.fdr
  all_goals exact h

/-- An index edge keeps the FDC's share of the invariant. -/
theorem fdcEdge_ok (c : Cfg) (t : Tick) (x : Fdc × Nat) (h : x.1.Ok) : (fdcEdge c t x).1.Ok := by
  unfold fdcEdge
  dsimp only
  split
  case h_1 => split <;> exact h
  case h_3 | h_4 | h_5 => split <;> exact h
  all_goals exact h

/-- The end of a read keeps the FDC's share of the invariant. -/
theorem Fdc.Ok.streamDone {f : Fdc} (h : f.Ok) : (streamDone f).Ok := by
  unfold Machine.streamDone
  split
  case h_1 => split <;> exact h
  case h_2 =>
    split
    · split
      · exact h.overOperating (g := Drive.nextSector) fun _ hd => hd
      · exact h
    · exact h
  all_goals exact h

/-- The periodic callback keeps the FDC's share of the invariant (45_fdc.md R395). -/
theorem fdcPeriodic_ok (c : Cfg) (t : Tick) (x : Fdc × Nat) (h : x.1.Ok) : (fdcPeriodic c t x).1.Ok := by
  refine fdcPeriodic_keeps (P := fun x => x.1.Ok) c t (fun f n hf => ?_) (fdcEdge_ok c) (fun f n hf => hf.fdcByte c)
    (fun f n hf => hf.streamDone) (fun f n hf => hf) x h
  simp only [seekPoll]
  split
  · exact hf.seekComplete _ _
  · exact hf

/-! ### Power-on, installation and removal -/

/-- A configured drive's head starts on track 0. -/
theorem Fdc.powerOn_ok (c : Cfg) (now : Tick) : (Fdc.powerOn c now).Ok := by
  refine ⟨fun k d hd => ?_, rfl, rfl⟩
  simp only [Fdc.powerOn, Vector.get_eq_getElem, Vector.getElem_ofFn, Option.map_eq_some_iff] at hd
  obtain ⟨e, -, rfl⟩ := hd
  exact Nat.zero_le _

/-- A freshly installed FDC's heads are drawn within the geometry (10_state.md R66). -/
theorem Fdc.fresh_ok (c : Cfg) (now : Tick) (n : Nat) (f : Fdc) : (Fdc.fresh c now n f).Ok := by
  refine ⟨fun k d hd => ?_, rfl, rfl⟩
  simp only [Fdc.fresh, Vector.get_eq_getElem, Vector.getElem_ofFn, Option.map_eq_some_iff] at hd
  obtain ⟨e, -, rfl⟩ := hd
  have hpos : 0 < max 1 e.geom.tracks := Nat.lt_of_lt_of_le Nat.zero_lt_one (Nat.le_max_left _ _)
  have hlt := Nat.mod_lt (c.freeNat (n + 12 + 2 * k.val)) hpos
  simp only [Drive.OnDisk, Drive.fresh]
  omega

/-- What stands in a removed FDC's place has its heads on track 0. -/
theorem Fdc.dropped_ok (c : Cfg) (now : Tick) (f : Fdc) : (Fdc.dropped c now f).Ok := by
  refine ⟨fun k d hd => ?_, rfl, rfl⟩
  simp only [Fdc.dropped, Vector.get_eq_getElem, Vector.getElem_map, Option.map_eq_some_iff] at hd
  obtain ⟨e, -, rfl⟩ := hd
  exact Nat.zero_le _

end Sys2Proof.Machine
end

section
/-! PROOF. Who registered the handlers that stand (10_state.md R76 (e), log 16): a predicate over a registration and its
owner that every entry of the slots meets is kept by registrations in the name of one it holds for, by deregistrations,
and by the removal of an owner's entries. -/

namespace Sys2Proof.Machine

/-! ### One list -/

section Lists

variable {α : Type} [DecidableEq α]

/-- Every entry left after the last occurrence is deleted was there before. -/
theorem mem_of_mem_removeLast {h : α} {l : List (Entry α)} {e : Entry α} (he : e ∈ removeLast h l) : e ∈ l := by
  rcases last_cases (fun x : Entry α => decide (x.handler = h)) l with hl | ⟨a, x, b, rfl, hx, hb⟩
  · rwa [removeLast, onLast_none _ _ _ hl] at he
  · rw [removeLast, onLast_last (fun x : Entry α => decide (x.handler = h)) _ _ _ _ hx hb] at he
    simp only [List.nil_append, List.mem_append, List.mem_cons] at he ⊢
    exact he.imp_right .inr

/-- An entry after a change of owner was there before, or is the handler in its new owner's name. -/
theorem mem_passOwner {h : α} {o : Owner} {l : List (Entry α)} {e : Entry α} (he : e ∈ passOwner h o l) :
    e ∈ l ∨ e = ⟨o, h⟩ := by
  rcases last_cases (fun x : Entry α => decide (x.handler = h) && decide (x.owner ≠ o)) l with
    hl | ⟨a, x, b, rfl, hx, hb⟩
  · rw [passOwner, onLast_none _ _ _ hl] at he
    exact .inl he
  · rw [passOwner, onLast_last (fun x : Entry α => decide (x.handler = h) && decide (x.owner ≠ o)) _ _ _ _ hx hb] at he
    simp only [Bool.and_eq_true, decide_eq_true_eq] at hx
    simp only [List.mem_append, List.mem_cons, List.not_mem_nil, or_false] at he ⊢
    rcases he with he | rfl | he
    · exact .inl (.inl he)
    · exact .inr (by rw [hx.1])
    · exact .inl (.inr (.inr he))

/-- The owner of the last occurrence registered an occurrence. -/
theorem mem_of_lastOwner {h : α} {l : List (Entry α)} {o : Owner} (ho : lastOwner h l = some o) : ⟨o, h⟩ ∈ l := by
  obtain ⟨e, he, rfl⟩ := Option.map_eq_some_iff.1 ho
  have hh : e.handler = h :=
    of_decide_eq_true (List.find?_some (p := fun x : Entry α => decide (x.handler = h)) he)
  subst hh
  exact List.mem_reverse.1 (List.mem_of_find?_eq_some he)

/-- A deregistration makes no new entry: the owner that an earlier occurrence passes to had registered the handler
too. -/
theorem mem_of_mem_removeHandler {h : α} {l : List (Entry α)} {e : Entry α} (he : e ∈ removeHandler h l) : e ∈ l := by
  unfold removeHandler at he
  split at he
  case h_1 k hk =>
    rcases mem_passOwner he with he | rfl
    · exact mem_of_mem_removeLast he
    · exact mem_of_lastOwner hk
  case h_2 => exact mem_of_mem_removeLast he

end Lists

/-! ### One slot, all slots -/

/-- Every entry of slot n meets a predicate over its registration and its owner. -/
def PortSlot.All (P : RegOp → Owner → Prop) (n : Byte) (q : PortSlot) : Prop :=
  (∀ e ∈ q.readers, P (.addReader n e.handler) e.owner) ∧ (∀ e ∈ q.writers, P (.addWriter n e.handler) e.owner) ∧
    ∀ e ∈ q.resets, P (.addReset n e.handler) e.owner

/-- Every entry of every slot meets the predicate. -/
def Slots.All (P : RegOp → Owner → Prop) (t : Slots) : Prop := ∀ n : Byte, (t.at n).All P n

variable {P Q : RegOp → Owner → Prop} {t : Slots}

/-- The owners of the invariant, in these terms (R76 (e)). -/
theorem State.ownersOk_iff (c : Cfg) (s : State) : s.OwnersOk c ↔ s.slots.All (s.Rightful c) := Iff.rfl

theorem Slots.All.mono (h : t.All P) (hpq : ∀ r o, P r o → Q r o) : t.All Q := fun n =>
  ⟨fun e he => hpq _ _ ((h n).1 e he), fun e he => hpq _ _ ((h n).2.1 e he), fun e he => hpq _ _ ((h n).2.2 e he)⟩

/-- Slots without a handler. -/
theorem Slots.all_empty : Slots.All P (Vector.replicate 256 PortSlot.empty) := by
  intro n
  simp only [Slots.at, Vector.get_eq_getElem, Vector.getElem_replicate]
  exact ⟨nofun, nofun, nofun⟩

/-- One slot changed. -/
theorem Slots.All.put (h : t.All P) (p : Byte) {q : PortSlot} (hq : q.All P p) : (t.put p q).All P := by
  intro n
  by_cases hn : n = p
  · subst hn; rw [Slots.at_put]; exact hq
  · rw [Slots.at_put_other t q hn]; exact h n

/-- What holds of the entries of a list, and of an appended one, holds of the longer list. -/
theorem forall_mem_append_one {α : Type} {R : Entry α → Prop} {l : List (Entry α)} {x : Entry α} (hl : ∀ e ∈ l, R e)
    (hx : R x) : ∀ e ∈ l ++ [x], R e := by
  intro e he
  rcases List.mem_append.1 he with he | he
  · exact hl e he
  · rw [List.mem_singleton.1 he]; exact hx

/-- A call on the bus in a name it is rightful in (41_portbus.md R193 to R198). -/
theorem Slots.All.apply (h : t.All P) {o : Owner} {r : RegOp} (hr : P r o) : (t.apply o r).All P := by
  cases r with
  | addReader p k => exact h.put p ⟨forall_mem_append_one (h p).1 hr, (h p).2.1, (h p).2.2⟩
  | addWriter p k => exact h.put p ⟨(h p).1, forall_mem_append_one (h p).2.1 hr, (h p).2.2⟩
  | addReset p k => exact h.put p ⟨(h p).1, (h p).2.1, forall_mem_append_one (h p).2.2 hr⟩
  | removeReader p k => exact h.put p ⟨fun e he => (h p).1 e (mem_of_mem_removeHandler he), (h p).2.1, (h p).2.2⟩
  | removeWriter p k => exact h.put p ⟨(h p).1, fun e he => (h p).2.1 e (mem_of_mem_removeHandler he), (h p).2.2⟩
  | removeReset p k => exact h.put p ⟨(h p).1, (h p).2.1, fun e he => (h p).2.2 e (mem_of_mem_removeHandler he)⟩

/-- Several calls in such a name. -/
theorem Slots.All.applyAll (h : t.All P) {o : Owner} {l : List RegOp} (hl : ∀ r ∈ l, P r o) :
    (t.applyAll o l).All P := by
  induction l generalizing t with
  | nil => exact h
  | cons r l ih => exact ih (h.apply (hl r (.head _))) fun r hr => hl r (.tail _ hr)

/-- A peripheral's registrations. -/
theorem Slots.All.install (h : t.All P) (c : Cfg) (k : Fin 4) {p : Option Periph}
    (hp : ∀ q, p = some q → ∀ r ∈ installRegs c k q, P r (.slot k)) : (t.install c k p).All P := by
  cases p with
  | none => exact h
  | some q => exact h.applyAll (hp q rfl)

/-- Slots without an owner's entries hold entries of other owners only (46_backplane.md R404). -/
theorem Slots.All.without (h : t.All P) (o : Owner) : (t.without o).All fun r x => P r x ∧ x ≠ o := by
  intro n
  have hn : (t.without o).at n = (t.at n).without o := by
    simp only [Slots.at, Slots.without, Vector.get_eq_getElem, Vector.getElem_map]
  rw [hn]
  refine ⟨fun e he => ?_, fun e he => ?_, fun e he => ?_⟩ <;> obtain ⟨hm, ho⟩ := List.mem_filter.1 he
  · exact ⟨(h n).1 e hm, of_decide_eq_true ho⟩
  · exact ⟨(h n).2.1 e hm, of_decide_eq_true ho⟩
  · exact ⟨(h n).2.2 e hm, of_decide_eq_true ho⟩

/-! ### Rightful owners -/

/-- A registration in another name than a slot's stays rightful whatever that slot holds. -/
theorem State.Rightful.setCard {c : Cfg} {s : State} {r : RegOp} {o : Owner} (h : s.Rightful c r o) {k : Fin 4}
    (ho : o ≠ .slot k) (p : Option Periph) : (s.setCard (s.card.set k.val p k.isLt)).Rightful c r o := by
  cases o with
  | base => exact h
  | host => trivial
  | slot j =>
    obtain ⟨q, hq, hr⟩ := h
    refine ⟨q, ?_, hr⟩
    have hj : k.val ≠ j.val := fun hkj => ho (congrArg Owner.slot (Fin.ext hkj).symm)
    simp only [State.setCard_card, Vector.get_eq_getElem, Vector.getElem_set_ne _ _ hj]
    exact hq

/-- No registration is rightful in the name of an empty slot. -/
theorem State.Rightful.ne_of_empty {c : Cfg} {s : State} {r : RegOp} {o : Owner} (h : s.Rightful c r o) {k : Fin 4}
    (hk : s.card.get k = none) : o ≠ .slot k := by
  rintro rfl
  obtain ⟨q, hq, -⟩ := h
  cases hk.symm.trans hq

/-- A peripheral put into an empty slot with its registrations leaves every owner rightful (46_backplane.md R402). -/
theorem State.OwnersOk.install {c : Cfg} {s : State} (h : s.OwnersOk c) {k : Fin 4} (hk : s.card.get k = none)
    (p : Periph) :
    ((s.setCard (s.card.set k.val (some p) k.isLt)).setSlots (s.slots.install c k (some p))).OwnersOk c := by
  refine Slots.All.install (P := (s.setCard (s.card.set k.val (some p) k.isLt)).Rightful c)
    (Slots.All.mono h fun r o hr => hr.setCard (hr.ne_of_empty hk) _) c k fun q hq r hr => ?_
  cases hq
  exact ⟨p, Vector.getElem_set_self _, hr⟩

/-- A peripheral taken out of its slot with the entries it registered leaves every owner rightful (R404). -/
theorem State.OwnersOk.remove {c : Cfg} {s : State} (h : s.OwnersOk c) (k : Fin 4) :
    ((s.setCard (s.card.set k.val none k.isLt)).setSlots (s.slots.without (.slot k))).OwnersOk c :=
  Slots.All.mono (Slots.All.without h (.slot k)) fun _ _ hr => hr.1.setCard hr.2 _

/-- Every handler of construction stands rightfully (42_system_ports.md R210, 70_reset_and_hazards.md R495). -/
theorem ownersOk_powerOn (c : Cfg) : (State.powerOn c).OwnersOk c := by
  have hcard (k : Fin 4) (q : Periph) (hq : c.cards k = some q) (r : RegOp) (hr : r ∈ installRegs c k q) :
      (State.powerOn c).Rightful c r (.slot k) := by
    refine ⟨q, ?_, hr⟩
    simp only [State.powerOn, Vector.get_eq_getElem, Vector.getElem_ofFn]
    exact hq
  have hbase : (Slots.base c).All ((State.powerOn c).Rightful c) := Slots.all_empty.applyAll fun _ hr => hr
  exact (((hbase.install c 0 (hcard 0)).install c 1 (hcard 1)).install c 2 (hcard 2)).install c 3 (hcard 3)

end Sys2Proof.Machine
end

section
/-! PROOF. The invariant of 10_state.md R76: one rule per component that an operation changes, then one lemma per shared
operation, and from them that every effect of a row and every step keeps it. -/

namespace Sys2Proof.Machine

/-! ### The line index through painting (43_video.md R258) -/

@[simp] theorem endDisplayLine_line (ma : BitVec 14) (v : Video) : (endDisplayLine ma v).line = v.line := by
  unfold endDisplayLine
  split <;> rfl

@[simp] theorem paintDisplayLine_line (c : Cfg) (bank : Nat) (mem : Memory) (v : Video) :
    (paintDisplayLine c bank mem v).line = v.line := by simp [paintDisplayLine]

@[simp] theorem paintBorderLine_line (c : Cfg) (v : Video) : (paintBorderLine c v).line = v.line := rfl

@[simp] theorem reloadRaster_line (v : Video) : (reloadRaster v).line = v.line := rfl

/-- A line painted leaves the line index. -/
theorem paintValidLine_line (c : Cfg) (s : State) : (paintValidLine c s).video.line = s.video.line := by
  unfold paintValidLine
  dsimp only
  split <;> split <;> simp

/-! ### Components -/

/-- The built-in generator's share. -/
theorem State.Inv.sound_ok {c : Cfg} {s : State} (h : s.Inv c) : s.sound.Ok c s.now :=
  ⟨h.post, h.events.1, h.ticks.1⟩

/-- The share of the chip XSND6. -/
theorem State.Inv.xsnd6_ok {c : Cfg} {s : State} (h : s.Inv c) : s.xsnd6.Ok s.now := ⟨h.events.2.1, h.ticks.2.1⟩

/-- The share of the chip XSND4. -/
theorem State.Inv.xsnd4_ok {c : Cfg} {s : State} (h : s.Inv c) : s.xsnd4.Ok s.now := ⟨h.events.2.2, h.ticks.2.2⟩

/-- The FDC's share. -/
theorem State.Inv.fdc_ok {c : Cfg} {s : State} (h : s.Inv c) : s.fdc.Ok := ⟨h.heads, h.flags⟩

section Updates

variable {c : Cfg} {s : State} (h : s.Inv c)
include h

/-- The fields the invariant does not read take any value. -/
theorem State.Inv.frame {t : State}
    (ht : t =
      { s with
        intFF := t.intFF, cart := t.cart, others := t.others, exts := t.exts, lastPeriodic := t.lastPeriodic
        kbd := t.kbd, calls := t.calls, frameOut := t.frameOut, audioOut := t.audioOut, refused := t.refused
        result := t.result, draws := t.draws }) : t.Inv c := by
  rw [ht]
  exact ⟨h.memory, h.paging, h.owners, h.heads, h.flags, h.line, h.post, h.events, h.ticks⟩

theorem State.Inv.setMem {x : Memory} (hx : x.wf = true) : (s.setMem x).Inv c := { h with memory := hx }

theorem State.Inv.setPaging {x : Paging} (hx : (s.setPaging x).PagingOk c) : (s.setPaging x).Inv c :=
  { h with paging := hx }

theorem State.Inv.setSlots {x : Slots} (hx : (s.setSlots x).OwnersOk c) : (s.setSlots x).Inv c :=
  { h with owners := hx }

theorem State.Inv.setCardSlots {x : Vector (Option Periph) 4} {y : Slots}
    (hxy : ((s.setCard x).setSlots y).OwnersOk c) : ((s.setCard x).setSlots y).Inv c := { h with owners := hxy }

theorem State.Inv.setFdc {x : Fdc} (hx : x.Ok) : (s.setFdc x).Inv c := { h with heads := hx.1, flags := hx.2 }

theorem State.Inv.setVideo {x : Video} (hx : x.line < c.linesPerFrame) : (s.setVideo x).Inv c := { h with line := hx }

theorem State.Inv.setSound {x : Sound} (hx : x.Ok c s.now) : (s.setSound x).Inv c :=
  { h with post := hx.post, events := ⟨hx.inOrder, h.events.2⟩, ticks := ⟨hx.tick, h.ticks.2⟩ }

theorem State.Inv.setXsnd6 {x : Chip} (hx : x.Ok s.now) : (s.setXsnd6 x).Inv c :=
  { h with events := ⟨h.events.1, hx.inOrder, h.events.2.2⟩, ticks := ⟨h.ticks.1, hx.tick, h.ticks.2.2⟩ }

theorem State.Inv.setXsnd4 {x : Chip} (hx : x.Ok s.now) : (s.setXsnd4 x).Inv c :=
  { h with events := ⟨h.events.1, h.events.2.1, hx.inOrder⟩, ticks := ⟨h.ticks.1, h.ticks.2.1, hx.tick⟩ }

/-- Time moves on (47_timing.md R435). -/
theorem State.Inv.setNow {t : Tick} (ht : s.now.toNat ≤ t.toNat) : (s.setNow t).Inv c :=
  { h with ticks := ⟨h.ticks.1.trans ht, h.ticks.2.1.trans ht, h.ticks.2.2.trans ht⟩ }

/-! ### Sound and devices -/

/-- The sound catch-up to a tick that has come. -/
theorem State.Inv.soundCatchUp {t : Tick} (ht : t.toNat ≤ s.now.toNat) : (s.soundCatchUp c t).Inv c :=
  State.Inv.frame (h.setSound (soundAdvance_ok (x := (s.sound, s.intFF)) h.sound_ok ht)) rfl

/-- A write to a sound register that leaves channels, levels and catch-up tick alone. -/
theorem State.Inv.soundWrite {f : Sound → Sound}
    (hf : ∀ x, (f x).ch = x.ch ∧ (f x).sndEvents = x.sndEvents ∧ (f x).sndTick = x.sndTick) :
    (soundWrite c f s).Inv c := by
  have h1 := h.soundCatchUp (Nat.le_refl _)
  have ht : (s.soundCatchUp c s.now).sound.sndTick = s.now := soundAdvance_tick c (x := (s.sound, s.intFF)) h.ticks.1
  obtain ⟨hch, hev, htick⟩ := hf (s.soundCatchUp c s.now).sound
  have hpost : (f (s.soundCatchUp c s.now).sound).PostOk c := by
    unfold Sound.PostOk; rw [hch]; exact h1.post
  have hord := h1.events.1
  rw [ht] at hord
  refine h1.setSound ⟨hpost, ?_, ?_⟩
  · show InOrder (_ ++ [(s.now, _)]) (f (s.soundCatchUp c s.now).sound).sndTick
    rw [htick, ht, hev]; exact hord.append _
  · show (f (s.soundCatchUp c s.now).sound).sndTick.toNat ≤ s.now.toNat
    rw [htick, ht]

/-- A chip caught up to a tick that has come. -/
theorem State.Inv.chipCatchUp (d : Dev) {t : Tick} (ht : t.toNat ≤ s.now.toNat) : (s.chipCatchUp c d t).Inv c := by
  cases d with
  | xsnd6 => exact h.setXsnd6 (chipAdvance_ok h.xsnd6_ok ht)
  | xsnd4 => exact h.setXsnd4 (chipAdvance_ok h.xsnd4_ok ht)
  | other n => exact h

/-- An access to a device, which catches a chip up to the present first (44_sound.md R313). -/
theorem State.Inv.accessed (d : Dev) (a : Access) (core : Nat) :
    ((s.chipCatchUp c d s.now).accessed c d a core).Inv c := by
  cases d with
  | xsnd6 => exact h.setXsnd6 (chipAccess_ok h.xsnd6_ok core _)
  | xsnd4 => exact h.setXsnd4 (chipAccess_ok h.xsnd4_ok core _)
  | other n => exact h.frame rfl

/-- A device's callback at the present tick. -/
theorem State.Inv.devPeriodic (d : Dev) {t : Tick} (ht : t.toNat ≤ s.now.toNat) : (devPeriodic c d t s).Inv c := by
  cases d with
  | xsnd6 => exact h.chipCatchUp .xsnd6 ht
  | xsnd4 => exact h.chipCatchUp .xsnd4 ht
  | other n => exact h.frame rfl

/-! ### Memory -/

/-- A read through a page. -/
theorem State.Inv.tagRead (t : Tag) (o : BitVec 14) : (tagRead c t o s).2.Inv c := by
  rcases tagRead_cases c t o s with ht | ⟨p, hp⟩
  · rw [ht]; exact h
  · rw [hp]
    cases p with
    | fdc => exact h.frame rfl
    | dev d => exact h.accessed d _ _

/-- A write through a page. -/
theorem State.Inv.tagWrite (t : Tag) (o : BitVec 14) (v : Byte) : (tagWrite c t o v s).Inv c := by
  rcases tagWrite_cases c t o v s with ⟨k, -, ht⟩ | ⟨b, -, ht⟩ | ⟨-, -, ht | ⟨p, ht⟩⟩ <;> rw [ht]
  · exact h.setMem (Memory.wf_write _ _ h.memory)
  · exact h.setMem (Memory.wf_write _ _ h.memory)
  · exact h
  · cases p with
    | fdc => exact h
    | dev d => exact h.accessed d _ _

/-- A debug write. -/
theorem State.Inv.debugWrite (d : DbgStore) (pg o : Nat) (v : Byte) : (debugWrite c d pg o v s).Inv c := by
  unfold Machine.debugWrite
  dsimp only
  split
  · cases d with
    | userRam => exact h.setMem (Memory.wf_write _ _ h.memory)
    | videoRam => exact h.setMem (Memory.wf_write _ _ h.memory)
    | sys | extRom | cart | card => exact h
  · exact h

/-! ### Registrations -/

/-- Calls on the bus in the host's name. -/
theorem State.Inv.applyHost_ownersOk (l : List RegOp) : (s.setSlots (s.slots.applyAll .host l)).OwnersOk c :=
  Slots.All.applyAll (P := s.Rightful c) h.owners fun _ _ => trivial

/-- A handler of the host's own that ran. -/
theorem State.Inv.extDone (n x : Nat) (regs : List RegOp) : (s.extDone n x regs).Inv c :=
  State.Inv.setSlots (h.frame (t := s.setExts (s.exts.put n x)) rfl) (h.applyHost_ownersOk regs)

/-- A registration by the host. -/
theorem State.Inv.register (r : RegOp) : (register r s).Inv c := h.setSlots (h.applyHost_ownersOk [r])

/-! ### Paging and video -/

/-- The paging latches written and the pages rebound at once (20_memory.md R88). -/
theorem State.Inv.rebind {port02 port03 page3 : Byte} (h3 : c.pagePort3 = none → page3 = 0#8) :
    (s.setPaging (rebind c port02 port03 page3)).Inv c := h.setPaging ⟨rfl, h3⟩

/-- The third paging-control port, if there is one. -/
theorem State.Inv.page3Write (v : Byte) : (page3Write c v s).Inv c := by
  unfold Machine.page3Write
  split
  case isTrue hp => exact h.rebind fun hn => by simp [hn] at hp
  case isFalse => exact h

/-- The line index moves on within the frame (43_video.md R258). -/
theorem State.Inv.advanceLine : (advanceLine c s).Inv c := by
  have hl := h.line
  unfold Machine.advanceLine
  unfold State.LineOk at hl
  split
  · refine State.Inv.setVideo (h.frame (t := s.setFrameOut (s.frameOut ++ [s.video.frameBuf])) rfl) ?_
    exact Nat.succ_pos _
  · refine h.setVideo ?_
    dsimp only
    omega

/-- A painted line of a valid configuration. -/
theorem State.Inv.paintValidLine : (paintValidLine c s).Inv c := by
  have hl : (Machine.paintValidLine c s).video.line < c.linesPerFrame := by rw [paintValidLine_line]; exact h.line
  rw [paintValidLine_frame]
  exact State.Inv.frame (h.setVideo hl) rfl

/-- RENDERLINE. -/
theorem State.Inv.renderLine : (renderLine c s).Inv c := by
  unfold Machine.renderLine
  split
  · exact State.Inv.advanceLine h.paintValidLine
  · exact State.Inv.advanceLine (State.Inv.frame (h.setVideo (x := paintNoiseLine c s.draws s.video) h.line) rfl)

/-! ### The FDC -/

/-- A command byte. -/
theorem State.Inv.runCommand (k : FdcCommand) : (runCommand c k s).Inv c := by
  rcases runCommand_cases c k s with ⟨-, -, hk⟩ | ⟨-, hk⟩ | ⟨f, hf, hk⟩ <;> rw [hk]
  · exact h
  · exact h.frame rfl
  · exact h.setFdc (commandRule_ok (f := commandTaken k s.fdc) h.fdc_ok hf)

/-- The FDC's callback. -/
theorem State.Inv.fdcCallback (t : Tick) : (s.fdcCallback c t).Inv c :=
  State.Inv.frame (h.setFdc (fdcPeriodic_ok c t (s.fdc, s.draws) h.fdc_ok)) rfl

/-! ### Handlers -/

/-- A reader (41_portbus.md R199). -/
theorem State.Inv.runReader (r : Reader) (a : Word) (v : Byte) : (runReader c r a v s).2.Inv c := by
  cases r with
  | kbd | cardId | fdcTrack | fdcSector | fdcLines => exact h
  | intStat => exact State.Inv.frame (h.soundCatchUp (Nat.le_refl _)) rfl
  | ackStat => exact h.frame rfl
  | crtcData =>
    simp only [Machine.runReader, crtcDataRead]
    split
    · split
      · exact h
      · exact h.frame rfl
    · exact h.frame rfl
  | fdcStatus => exact h.setFdc (x := fdcStatusTaken s.fdc) h.fdc_ok
  | fdcData => exact h.setFdc (x := fdcDataTaken s.fdc) h.fdc_ok
  | dev d => exact h.accessed d _ _
  | ext n => exact h.extDone n _ _

/-- A writer (R199). -/
theorem State.Inv.runWriter (w : Writer) (a : Word) (v : Byte) : (runWriter c w a v s).Inv c := by
  cases w with
  | border | pal | crtcAddr | gfxMode => exact h.setVideo h.line
  | crtcData =>
    simp only [Machine.runWriter, crtcDataWrite]
    split
    · exact h.setVideo h.line
    · exact h
  | paging | extSel => exact h.rebind h.paging.2
  | page3 => exact h.page3Write v
  | sndFreqL => exact h.soundWrite (f := fun x => { x with snd04 := v }) fun _ => ⟨rfl, rfl, rfl⟩
  | sndFreqH => exact h.soundWrite (f := fun x => { x with snd05 := v }) fun _ => ⟨rfl, rfl, rfl⟩
  | sndVol => exact h.soundWrite (f := fun x => { x with snd06 := v }) fun _ => ⟨rfl, rfl, rfl⟩
  | intClr => exact State.Inv.frame (h.soundCatchUp (Nat.le_refl _)) rfl
  | fdcCmd => exact h.runCommand _
  | fdcTrack => exact h.setFdc (x := fdcTrackWrite v s.fdc) h.fdc_ok
  | fdcSector => exact h.setFdc (x := fdcSectorWrite v s.fdc) h.fdc_ok
  | fdcData => exact h.setFdc (x := fdcDataWrite v s.fdc) h.fdc_ok
  | fdcCtrl => exact h.setFdc (x := fdcCtrlWrite c v s.fdc) h.fdc_ok
  | dev d => exact h.accessed d _ _
  | ext n => exact h.extDone n _ _

/-- The FDC's Reset clears the flags and keeps the drives (45_fdc.md R396). -/
theorem State.Inv.fdcReset : (s.setFdc (fdcReset s.now s.fdc)).Inv c := h.setFdc ⟨h.heads, rfl, rfl⟩

/-- A reset handler (R199). -/
theorem State.Inv.runReset (r : Resetter) : (runReset c r s).Inv c := by
  cases r with
  | mapper => exact h.rebind fun _ => rfl
  | fdc => exact h.fdcReset
  | dev d => exact h.accessed d _ _
  | ext n => exact h.extDone n _ _

/-- A port read. -/
theorem State.Inv.portRead (a : Word) : (portRead c a s).2.Inv c :=
  readChain_keeps (P := fun u => u.Inv c) c a _ (fun e _ v _ hu => hu.runReader e.handler a v) _ h

/-- A port write. -/
theorem State.Inv.portWrite (a : Word) (v : Byte) : (portWrite c a v s).Inv c :=
  writeChain_keeps (P := fun u => u.Inv c) c a v _ (fun e _ _ hu => hu.runWriter e.handler a v) _ h

/-- BUSRESET. -/
theorem State.Inv.busReset : (busReset c s).Inv c :=
  resetChain_keeps (P := fun u => u.Inv c) c _ (fun e _ _ hu => hu.runReset e.handler) _ h

/-- RESET. -/
theorem State.Inv.machineReset : (machineReset c s).Inv c := by
  have hb := h.busReset
  unfold Machine.machineReset cartReset
  split
  · exact hb.accessed _ _ _
  · exact hb.fdcReset
  · exact hb

/-! ### RENDER, PERIODIC and the backplane -/

/-- A RENDER that is in order, so that its end has come (44_sound.md R305). -/
theorem State.Inv.rendered {g : Gen} {b e : Nat} (hr : s.canRender c g b e = true) (buf : List (Int × Int)) :
    (rendered c g buf b e s).Inv c := by
  have he : (BitVec.ofNat 64 (sampleTick c e)).toNat ≤ s.now.toNat := by
    simp only [State.canRender, Bool.and_eq_true, decide_eq_true_eq] at hr
    rw [BitVec.toNat_ofNat]
    exact (Nat.mod_le _ _).trans hr.1
  cases g with
  | builtin =>
    have h1 := h.soundCatchUp he
    exact State.Inv.frame (h1.setSound (Sound.render_ok buf b e h1.sound_ok)) rfl
  | xsnd6 => exact State.Inv.frame (h.setXsnd6 (Chip.render_ok buf b e (chipAdvance_ok h.xsnd6_ok he))) rfl
  | xsnd4 => exact State.Inv.frame (h.setXsnd4 (Chip.render_ok buf b e (chipAdvance_ok h.xsnd4_ok he))) rfl

/-- A fresh peripheral. -/
theorem State.Inv.freshPeriph (p : Periph) : (freshPeriph c p s).Inv c := by
  unfold Machine.freshPeriph
  split
  · exact h
  · split
    · exact State.Inv.frame (h.setFdc (Fdc.fresh_ok c s.now s.draws s.fdc)) rfl
    · exact h.setXsnd6 (Chip.powerOn_ok c _ _)
    · exact h.setXsnd4 (Chip.powerOn_ok c _ _)
    · exact h.frame rfl

/-- A removed peripheral's state. -/
theorem State.Inv.dropPeriph (p : Periph) : (dropPeriph c p s).Inv c := by
  unfold Machine.dropPeriph
  split
  · exact h
  · split
    · exact h.setFdc (Fdc.dropped_ok c s.now s.fdc)
    · exact h.setXsnd6 (Chip.powerOn_ok c _ _)
    · exact h.setXsnd4 (Chip.powerOn_ok c _ _)
    · exact h.frame rfl

/-- INSTALL. -/
theorem State.Inv.installOp (k : Socket) (p : Periph) : (installOp c k p s).Inv c := by
  have hp := h.freshPeriph p
  rcases installOp_cases c k p s with hk | ⟨j, -, hj, hk⟩ | ⟨-, -, hk⟩ <;> rw [hk]
  · exact h.frame rfl
  · exact hp.setCardSlots (hp.owners.install (by rw [freshPeriph_frame]; exact hj) p)
  · exact hp.frame rfl

/-- REMOVE. -/
theorem State.Inv.removeOp (k : Socket) : (removeOp c k s).Inv c := by
  rcases removeOp_cases c k s with hk | hk | ⟨j, p, -, -, -, hk⟩ | ⟨p, -, -, -, hk⟩ <;> rw [hk]
  · exact h
  · exact h.frame rfl
  · exact State.Inv.dropPeriph (h.setCardSlots (h.owners.remove j)) p
  · exact State.Inv.dropPeriph (h.frame (t := s.setCart none) rfl) p

/-- The peripherals' callbacks at a tick that has come. -/
theorem State.Inv.periodicAll {t : Tick} (ht : t.toNat ≤ s.now.toNat) : (periodicAll c t s).Inv c := by
  refine (periodicAll_keeps (P := fun u => u.Inv c ∧ t.toNat ≤ u.now.toNat) c t ?_ ?_ s ⟨h, ht⟩).1
  · exact fun u ⟨hu, hn⟩ => ⟨hu.fdcCallback t, hn⟩
  · exact fun d u ⟨hu, hn⟩ => ⟨hu.devPeriodic d hn, by rw [devPeriodic_frame]; exact hn⟩

/-- PERIODIC, in order only at the present tick (46_backplane.md R410). -/
theorem State.Inv.periodicOp (t : Tick) : (periodicOp c t s).Inv c := by
  unfold Machine.periodicOp
  split
  case isTrue ho =>
    simp only [State.periodicInOrder, Bool.and_eq_true, decide_eq_true_eq] at ho
    have ht : t.toNat ≤ s.now.toNat := by rw [ho.1]
    exact State.Inv.periodicAll (State.Inv.frame (h.soundCatchUp ht) rfl) ht
  case isFalse => exact h.frame rfl

end Updates

/-! ### Rows and steps -/

/-- Every effect of a row keeps the invariant. -/
theorem Effect.inv {c : Cfg} {i : Instr} {s t : State} (he : Effect c i s t) (h : s.Inv c) : t.Inv c := by
  cases he with
  | readsOnly _ => exact h
  | memRead a => exact h.tagRead _ _
  | memWrite a v => exact h.tagWrite _ _ v
  | debugWrite d pg o v => exact h.debugWrite d pg o v
  | portRead a => exact h.portRead a
  | portWrite a v => exact h.portWrite a v
  | reader r => exact h.runReader r _ _
  | writer w v => exact h.runWriter w _ v
  | page3 v => exact h.page3Write v
  | command k => exact h.runCommand k
  | register r => exact h.register r
  | busReset => exact h.busReset
  | machineReset => exact h.machineReset
  | renderLine => exact h.renderLine
  | render g buf b e _ hr => exact h.rendered hr buf
  | renderRefused => exact h.frame rfl
  | periodic t => exact h.periodicOp t
  | install k p => exact h.installOp k p
  | remove k => exact h.removeOp k

/-- Every operation keeps the invariant. -/
theorem State.Inv.exec {i : Instr} {s t : State} (h : s.Inv Config.cfg) (he : exec i s = .next t) :
    t.Inv Config.cfg := by
  obtain ⟨u, x, hu, rfl⟩ := exec_next he
  exact (hu.inv h).frame rfl

/-- Settles O9: a step takes a call, whose tick is not before the present one, and runs an operation that keeps the
invariant; a call out of time only marks the run. -/
theorem stepKeepsInvariant : Obligations.StepKeepsInvariant := by
  intro s t h hst
  unfold step at hst
  split at hst
  · cases hst
  next k rest _ =>
    have hrest : (s.setCalls rest).Inv Config.cfg := h.frame rfl
    split at hst
    case isTrue ht =>
      have hin : (k.inputs (s.setCalls rest)).Inv Config.cfg :=
        State.Inv.frame (hrest.setNow (t := k.now) (of_decide_eq_true ht)) rfl
      split at hst
      · exact hin.exec hst
      · cases hst
    case isFalse =>
      cases hst
      exact hrest.frame rfl

/-- Settles O8: construction registers rightfully, and every store, latch and generator starts within its bounds. -/
theorem powerOnInvariant : Obligations.PowerOnInvariant where
  memory := Memory.wf_reset
  paging := ⟨rfl, fun _ => rfl⟩
  owners := ownersOk_powerOn Config.cfg
  heads := (Fdc.powerOn_ok Config.cfg 0#64).1
  flags := (Fdc.powerOn_ok Config.cfg 0#64).2
  line := Nat.succ_pos _
  post := fun i => by
    have hpost : (State.reset.sound.ch.get i).post = 0 := by
      simp [State.reset, State.powerOn, Sound.powerOn, Vector.get_eq_getElem]
    rw [hpost]
    exact Nat.succ_pos _
  events := ⟨.nil _, .nil _, .nil _⟩
  ticks := ⟨Nat.le_refl _, Nat.le_refl _, Nat.le_refl _⟩

end Sys2Proof.Machine
end

section
/-! PROOF. The paging latches and the page table change only in a paging handler, the mapper's reset handler, or the
paging rows (20_memory.md R88, 42_system_ports.md R220). -/

namespace Sys2Proof.Machine

/-! ### Handlers -/

/-- The writers of the paging-control ports (42_system_ports.md R214, R216, R218). -/
def pagingWriter (h : Writer) : Prop := h = .paging ∨ h = .extSel ∨ h = .page3

/-- A writer of no paging-control port leaves the paging. -/
theorem runWriter_paging (c : Cfg) {h : Writer} (a : Word) (v : Byte) (s : State) (hh : ¬pagingWriter h) :
    (runWriter c h a v s).paging = s.paging := by
  cases h with
  | paging => exact absurd (.inl rfl) hh
  | extSel => exact absurd (.inr (.inl rfl)) hh
  | page3 => exact absurd (.inr (.inr rfl)) hh
  | dev d => simp only [runWriter]; rw [devPortWrite_frame]
  | crtcData => simp only [runWriter, crtcDataWrite]; split <;> rfl
  | fdcCmd => simp only [runWriter]; rw [runCommand_frame]
  | _ => rfl

/-- A reset handler other than the mapper's leaves the paging. -/
theorem runReset_paging (c : Cfg) {h : Resetter} (s : State) (hh : h ≠ .mapper) :
    (runReset c h s).paging = s.paging := by
  cases h with
  | mapper => exact absurd rfl hh
  | dev d => simp only [runReset]; rw [devReset_frame]
  | fdc | ext n => rfl

/-! ### Port transactions and resets -/

/-- A port read leaves the paging. -/
theorem portRead_paging (c : Cfg) (a : Word) (s : State) : (portRead c a s).2.paging = s.paging :=
  readChain_keeps (P := fun u => u.paging = s.paging) c a _
    (fun e _ v u hu => by rw [runReader_frame]; exact hu) _ rfl

/-- A port write leaves the paging where no paging handler stands in its slot. -/
theorem portWrite_paging (c : Cfg) (a : Word) (v : Byte) (s : State)
    (h : ¬(s.writes a .paging ∨ s.writes a .extSel ∨ s.writes a .page3)) : (portWrite c a v s).paging = s.paging := by
  refine writeChain_keeps (P := fun u => u.paging = s.paging) c a v _ (fun e he u hu => ?_) _ rfl
  have hne : ¬pagingWriter e.handler := fun hp =>
    h (hp.imp (fun hp => ⟨e, he, hp⟩) (Or.imp (fun hp => ⟨e, he, hp⟩) fun hp => ⟨e, he, hp⟩))
  exact (runWriter_paging c a v u hne).trans hu

/-- A reset handler of the list BUSRESET runs stands in some slot. -/
theorem exists_at_of_mem_resets {t : Slots} {e : Entry Resetter} (h : e ∈ t.toList.flatMap PortSlot.resets) :
    ∃ n : Byte, e ∈ (t.at n).resets := by
  obtain ⟨q, hq, he⟩ := List.mem_flatMap.1 h
  obtain ⟨i, hi, rfl⟩ := Vector.mem_iff_getElem.1 (Vector.mem_toList_iff.1 hq)
  exact ⟨BitVec.ofFin ⟨i, hi⟩, he⟩

/-- The mapper's reset handler is registered in some slot. -/
def State.mapperResets (s : State) : Prop := ∃ n : Byte, ∃ e ∈ (s.slots.at n).resets, e.handler = .mapper

/-- BUSRESET leaves the paging where the mapper's reset handler is not registered. -/
theorem busReset_paging (c : Cfg) {s : State} (h : ¬s.mapperResets) : (busReset c s).paging = s.paging := by
  refine resetChain_keeps (P := fun u => u.paging = s.paging) c _ (fun e he u hu => ?_) _ rfl
  obtain ⟨n, hn⟩ := exists_at_of_mem_resets he
  exact (runReset_paging c u fun hm => h ⟨n, e, hn, hm⟩).trans hu

/-- RESET leaves the paging there too. -/
theorem machineReset_paging (c : Cfg) {s : State} (h : ¬s.mapperResets) : (machineReset c s).paging = s.paging := by
  unfold machineReset
  rw [cartReset_frame]
  exact busReset_paging c h

/-! ### RENDERLINE, RENDER and PERIODIC -/

/-- RENDERLINE leaves the paging. -/
theorem renderLine_paging (c : Cfg) (s : State) : (renderLine c s).paging = s.paging := by
  unfold renderLine
  rw [advanceLine_frame]
  dsimp only
  split
  · rw [paintValidLine_frame]
  · rfl

/-- A RENDER that is not refused leaves the paging. -/
theorem rendered_paging (c : Cfg) (g : Gen) (buf : List (Int × Int)) (b e : Nat) (s : State) :
    (rendered c g buf b e s).paging = s.paging := by
  cases g <;> rfl

/-- PERIODIC leaves the paging. -/
theorem periodicOp_paging (c : Cfg) (t : Tick) (s : State) : (periodicOp c t s).paging = s.paging := by
  unfold periodicOp
  split
  · exact periodicAll_keeps (P := fun u => u.paging = s.paging) c t (fun _ hu => hu)
      (fun d u hu => by rw [devPeriodic_frame]; exact hu) _ rfl
  · rfl

/-! ### Rows -/

/-- Every effect of a row that may not rebind the pages leaves the paging. -/
theorem Effect.paging {c : Cfg} {i : Instr} {s t : State} (h : Effect c i s t) (hi : ¬mayRebind s i) :
    t.paging = s.paging := by
  cases h with
  | readsOnly _ | register _ _ _ | renderRefused _ _ _ _ _ _ => rfl
  | memRead a => rw [memRead_frame]
  | memWrite a v => rw [memWrite_frame]
  | debugWrite d pg o v => rw [debugWrite_frame]
  | portRead a => exact portRead_paging c a s
  | portWrite a v _ ha => exact portWrite_paging c a v s fun hw => hi (.inr ⟨a, v, ha, hw⟩)
  | reader h => rw [runReader_frame]
  | writer h v _ hr =>
    refine runWriter_paging c 0#16 v s fun hp => ?_
    obtain rfl | rfl | rfl := hp <;> cases hr <;> exact hi (.inl trivial)
  | page3 v => exact absurd (.inl trivial) hi
  | command k => rw [runCommand_frame]
  | busReset => exact busReset_paging c fun hm => hi (.inl hm)
  | machineReset => exact machineReset_paging c fun hm => hi (.inl hm)
  | renderLine => exact renderLine_paging c s
  | render g buf b e => exact rendered_paging c g buf b e s
  | periodic t => exact periodicOp_paging c t s
  | install k p => rw [installOp_frame]
  | remove k => rw [removeOp_frame]

/-- Settles O14: each effect leaves the paging but where a paging handler or the mapper's reset handler runs. -/
theorem bindingsChangeOnlyByPaging : Obligations.BindingsChangeOnlyByPaging := by
  intro i s t h hi
  obtain ⟨u, x, hu, rfl⟩ := exec_next h
  exact hu.paging hi

end Sys2Proof.Machine
end

section
/-! PROOF. The paging decode: the fields of port02, and what a page's tag depends on (20_memory.md R85 to R87). -/

namespace Sys2Proof.Machine

/-! ### The fields of port02 (R86 (a)) -/

/-- The bit of port02 at which bit b of page p's field lies. -/
def fieldBit (c : Cfg) (p : Fin 4) (b : Fin 2) : Fin 8 := c.paging.bitOrder ⟨2 * p.val + b.val, by omega⟩

/-- No two bits of fields share a bit of port02. -/
theorem fieldBit_inj {c : Cfg} {p q : Fin 4} {a b : Fin 2} (h : fieldBit c p a = fieldBit c q b) : p = q ∧ a = b := by
  have hv : 2 * p.val + a.val = 2 * q.val + b.val := congrArg Fin.val (c.paging.bitOrder.injective h)
  exact ⟨Fin.ext (by omega), Fin.ext (by omega)⟩

/-- The bits of port02 that page p's field takes. -/
def fieldMask (c : Cfg) (p : Fin 4) : Byte :=
  BitVec.twoPow 8 (fieldBit c p 0).val ||| if c.paging.wide p then BitVec.twoPow 8 (fieldBit c p 1).val else 0#8

theorem getLsbD_fieldMask (c : Cfg) (p : Fin 4) (i : Nat) :
    (fieldMask c p).getLsbD i =
      (decide (i = (fieldBit c p 0).val) || c.paging.wide p && decide (i = (fieldBit c p 1).val)) := by
  have h0 := (fieldBit c p 0).isLt
  have h1 := (fieldBit c p 1).isLt
  have hbit (j : Nat) (hj : j < 8) : (BitVec.twoPow 8 j).getLsbD i = decide (i = j) := by
    rw [BitVec.getLsbD_twoPow, Bool.eq_iff_iff]
    simp only [Bool.and_eq_true, decide_eq_true_eq]
    omega
  cases hw : c.paging.wide p <;> simp [fieldMask, hw, hbit, h0, h1]

/-- A bit of a mask is a bit of the page's field. -/
theorem exists_fieldBit_of_mask {c : Cfg} {p : Fin 4} {i : Nat} (h : (fieldMask c p).getLsbD i = true) :
    ∃ b : Fin 2, i = (fieldBit c p b).val := by
  rw [getLsbD_fieldMask, Bool.or_eq_true, Bool.and_eq_true] at h
  obtain h | ⟨-, h⟩ := h
  · exact ⟨0, of_decide_eq_true h⟩
  · exact ⟨1, of_decide_eq_true h⟩

/-- Two pages' fields take no bit in common. -/
theorem fieldMask_disjoint (c : Cfg) {p q : Fin 4} (hpq : p ≠ q) : fieldMask c p &&& fieldMask c q = 0#8 := by
  apply BitVec.eq_of_getLsbD_eq
  intro i _
  rw [BitVec.getLsbD_and, BitVec.getLsbD_zero, Bool.eq_false_iff, ne_eq, Bool.and_eq_true]
  rintro ⟨hp, hq⟩
  obtain ⟨a, ha⟩ := exists_fieldBit_of_mask hp
  obtain ⟨b, hb⟩ := exists_fieldBit_of_mask hq
  exact hpq (fieldBit_inj (Fin.ext (ha.symm.trans hb))).1

/-- Of the eight bits, one is the given one, or two are one of two given ones. -/
theorem countP_one_or_two_bits : ∀ (lo hi : Fin 8) (w : Bool), lo ≠ hi →
    (List.range 8).countP (fun i => decide (i = lo.val) || w && decide (i = hi.val)) = if w then 2 else 1 := by
  decide

/-- A field takes two bits if it is wide, else one. -/
theorem countP_fieldMask (c : Cfg) (p : Fin 4) :
    (List.range 8).countP (fun i => (fieldMask c p).getLsbD i) = if c.paging.wide p then 2 else 1 := by
  simp only [getLsbD_fieldMask]
  exact countP_one_or_two_bits _ _ _ fun h => absurd (fieldBit_inj h).2 (by decide)

/-- A field is its low bit and, if it is wide, its high bit. -/
theorem pageField_eq (c : Cfg) (p : Fin 4) (v : Byte) :
    pageField c p v =
      BitVec.ofBool (c.paging.wide p && v.getLsbD (fieldBit c p 1).val) ++
        BitVec.ofBool (v.getLsbD (fieldBit c p 0).val) := rfl

/-- A field depends on its own bits only. -/
theorem pageField_congr {c : Cfg} {p : Fin 4} {v w : Byte} (h : v &&& fieldMask c p = w &&& fieldMask c p) :
    pageField c p v = pageField c p w := by
  have hbit (i : Nat) (hi : (fieldMask c p).getLsbD i = true) : v.getLsbD i = w.getLsbD i := by
    simpa [hi] using congrArg (·.getLsbD i) h
  have hlo := hbit (fieldBit c p 0).val (by simp [getLsbD_fieldMask])
  rw [pageField_eq, pageField_eq, hlo]
  cases hw : c.paging.wide p with
  | false => rfl
  | true => rw [hbit (fieldBit c p 1).val (by simp [getLsbD_fieldMask, hw])]

/-- Two different bits of a byte take any two values. -/
theorem exists_byte_of_two_bits {lo hi : Fin 8} (h : lo ≠ hi) (a b : Bool) :
    ∃ v : Byte, v.getLsbD lo.val = a ∧ v.getLsbD hi.val = b := by
  have hv : lo.val ≠ hi.val := fun he => h (Fin.ext he)
  refine ⟨(if a then BitVec.twoPow 8 lo.val else 0#8) ||| (if b then BitVec.twoPow 8 hi.val else 0#8), ?_, ?_⟩
  · cases a <;> cases b <;> simp [hv]
  · cases a <;> cases b <;> simp [hv.symm]

/-- A field takes every value of its width. -/
theorem exists_pageField_eq {c : Cfg} {p : Fin 4} {f : BitVec 2} (hf : c.paging.wide p = false → f.getLsbD 1 = false) :
    ∃ v : Byte, pageField c p v = f := by
  have hne : fieldBit c p 0 ≠ fieldBit c p 1 := fun h => absurd (fieldBit_inj h).2 (by decide)
  obtain ⟨v, hlo, hhi⟩ := exists_byte_of_two_bits hne (f.getLsbD 0) (f.getLsbD 1)
  have hwide : (c.paging.wide p && f.getLsbD 1) = f.getLsbD 1 := by
    cases hw : c.paging.wide p with
    | false => rw [hf hw]; rfl
    | true => rfl
  have hbits : ∀ x : BitVec 2, BitVec.ofBool (x.getLsbD 1) ++ BitVec.ofBool (x.getLsbD 0) = x := by decide
  exact ⟨v, by rw [pageField_eq, hlo, hhi, hwide, hbits]⟩

@[simp] theorem pageField_zero (c : Cfg) (p : Fin 4) : pageField c p 0#8 = 0#2 := by simp [pageField_eq]

/-- The cartridge's code is not zero. -/
theorem cartCode_ne_zero (c : Cfg) : cartCode c ≠ 0#2 := by
  unfold cartCode
  split
  · split
    · decide
    · assumption
  · decide

/-- Some value of port02 selects the cartridge's code. -/
theorem exists_pageField_cartCode (c : Cfg) : ∃ v : Byte, pageField c 0 v = cartCode c :=
  exists_pageField_eq fun hw => by simp [cartCode, hw]

/-! ### The tag of a page (R85, R86 (b), R87) -/

/-- The tag a page takes for what the table gives it: its user RAM for no value and for a video bank that does not
exist (R87). -/
def orUserRam (c : Cfg) (p : Fin 4) : Option Tag → Tag
  | some (.vid b) => if b < c.vidBanks then .vid b else .u p
  | some t => t
  | none => .u p

theorem decodePage_eq (c : Cfg) (v x y : Byte) (p : Fin 4) :
    decodePage c v x y p = orUserRam c p (rawTag c v x y p) := rfl

/-- Every page but page 1 follows port02 alone. -/
theorem rawTag_of_ne_one (c : Cfg) (v x y : Byte) {p : Fin 4} (hp : p ≠ 1) : rawTag c v x y p = fixedTag c v p :=
  if_neg hp

/-- Page 1 follows port03 only under a table that always shows `EXT` elsewhere (log 45). -/
theorem rawTag_one (c : Cfg) (v x y : Byte) :
    rawTag c v x y 1 = c.paging.page1 c.rev (pageField c 1 v) (if alwaysExt c then x else 0#8) y := rfl

/-- A page that follows port02 alone does so through its own field, whatever the revision. -/
theorem fixedTag_congr {c : Cfg} {p : Fin 4} {v w : Byte} (r : HwRev) (h : pageField c p v = pageField c p w) :
    fixedTag c v p = fixedTag { c with rev := r } w p := by
  have hw : pageField { c with rev := r } p w = pageField c p v := h.symm
  simp only [fixedTag, hw]
  rfl

/-- Where no page shows `EXT`, the table is not one that always shows it. -/
theorem alwaysExt_eq_false {c : Cfg} {v x y : Byte} (h : ∀ p : Fin 4, decodePage c v x y p ≠ .ext) :
    alwaysExt c = false := by
  refine decide_eq_false fun hall => ?_
  obtain ⟨p, hp, hext⟩ := hall v
  exact h p (by rw [decodePage_eq, rawTag_of_ne_one c v x y hp, hext]; rfl)

/-- Where no page shows `EXT`, no page follows port03 (42_system_ports.md R216). -/
theorem decodePage_port03 {c : Cfg} {v x y : Byte} (h : ∀ p : Fin 4, decodePage c v x y p ≠ .ext) (x' : Byte)
    (p : Fin 4) : decodePage c v x' y p = decodePage c v x y p := by
  rw [decodePage_eq, decodePage_eq]
  by_cases hp : p = 1
  · subst hp
    rw [rawTag_one, rawTag_one, alwaysExt_eq_false h]
    rfl
  · rw [rawTag_of_ne_one c v x' y hp, rawTag_of_ne_one c v x y hp]

/-- Page 0 shows the cartridge at the cartridge's code (R86 (d)). -/
theorem decodePage_cart {c : Cfg} {v : Byte} (h : pageField c 0 v = cartCode c) (x y : Byte) :
    decodePage c v x y 0 = .cart := by
  rw [decodePage_eq, rawTag_of_ne_one c v x y (by decide)]
  simp [fixedTag, h, cartCode_ne_zero, orUserRam]

/-- Page 0 shows `SYS` at 0x00 (R86 (c)). -/
theorem decodePage_sys (c : Cfg) (x y : Byte) : decodePage c 0#8 x y 0 = .sys := by
  rw [decodePage_eq, rawTag_of_ne_one c 0#8 x y (by decide)]
  simp [fixedTag, orUserRam]

/-- Settles O22: the masks of the fields are disjoint and hold all that a field reads, and every page goes through its
field, page 1 with the revision and the other latches. -/
theorem pageDecodeConstraints : Obligations.PageDecodeConstraints := by
  intro c
  refine ⟨⟨fieldMask c, fun _ _ => fieldMask_disjoint c, countP_fieldMask c, fun _ _ _ => pageField_congr⟩, ?_, ?_, ?_,
    decodePage_sys c, ?_, ?_, ?_⟩
  · intro p v w x y x' y' r hp hf
    rw [decodePage_eq, decodePage_eq, rawTag_of_ne_one _ _ _ _ hp, rawTag_of_ne_one _ _ _ _ hp, fixedTag_congr r hf]
    rfl
  · intro v w x y hf
    rw [decodePage_eq, decodePage_eq, rawTag_one, rawTag_one, hf]
  · exact fun v x x' y h => decodePage_port03 h x'
  · obtain ⟨v, hv⟩ := exists_pageField_cartCode c
    exact ⟨v, decodePage_cart hv⟩
  · intro v x y p h
    rw [decodePage_eq, h]
    rfl
  · intro v x y p b h
    rw [decodePage_eq, h]
    rfl

end Sys2Proof.Machine
end

section
/-! PROOF. ROM stores take no write (20_memory.md R92). -/

namespace Sys2Proof.Machine

/-- A write through a page that shows `SYS` or the ROM part of `EXT` is discarded. -/
theorem memWrite_rom (c : Cfg) {a : Word} (v : Byte) {s : State}
    (h : s.tagOf a = .sys ∨ s.tagOf a = .ext ∧ c.mem.extSplit ≤ (offsetOf a).toNat) : memWrite c a v s = s := by
  unfold memWrite
  obtain h | ⟨h, ho⟩ := h
  · rw [h]; rfl
  · rw [h]; exact if_neg (by omega)

/-- A debug write to a ROM store is discarded, in range or out of it. -/
theorem debugWrite_rom (c : Cfg) {d : DbgStore} (hd : d = .sys ∨ d = .extRom) (pg o : Nat) (v : Byte) (s : State) :
    debugWrite c d pg o v s = s := by
  obtain rfl | rfl := hd <;> exact ite_self s

/-- The debug-write row ends in the debug write. -/
theorem exec_dbgwr (d : DbgStore) (pg o : Nat) (v : Byte) (s : State) :
    exec (.dbgwr d pg o v) s = .next ((debugWrite Config.cfg d pg o v s).setResult .none) := rfl

/-- Settles O17: neither the page's writer nor the debug write of a ROM store changes the state. -/
theorem romWritesDiscarded : Obligations.RomWritesDiscarded := by
  refine ⟨fun c a v s h => memWrite_rom c v (.inl h), fun c a v s h ho => memWrite_rom c v (.inr ⟨h, ho⟩),
    fun pg o v s => ⟨?_, ?_⟩, fun _ _ _ => rfl⟩
  · rw [exec_dbgwr, debugWrite_rom _ (.inl rfl)]
  · rw [exec_dbgwr, debugWrite_rom _ (.inr rfl)]

end Sys2Proof.Machine
end

section
/-! PROOF. The command bytes and words of the decoder, written out (30_encoding.md R146 to R148). -/

namespace Sys2Proof.Machine

/-- Settles O3: all 256 command bytes are compared with R146 to R148, and each word is the encoding of its row. -/
theorem decodeWords : Obligations.DecodeWords := by
  refine ⟨by decide +kernel, ?_, ?_, ?_, ?_, ?_, ?_, ?_, ?_, ?_, ?_, ?_⟩
  · exact decode_encode (.memrd 0xC034#16)
  · exact decode_encode (.outPaging 0x55#8)
  · exact decode_encode (.outPal3 0x0E#8)
  · exact decode_encode .inIntstat
  · exact decode_encode (.inCardwin 0 15 0xAB#8)
  · exact decode_encode (.outCardwin 3 0 0#8 0x01#8)
  · exact decode_encode (.fdcDataW 0x05#8)
  · exact decode_encode (.fdcSeek true false 3#2)
  · exact decode_encode (.fdcStepout true false true 2#2)
  · exact decode_encode (.fdcReadsec true false false false false)
  · exact decode_encode (.fdcForceint 8#4)

end Sys2Proof.Machine
end

section
/-! PROOF. Decoding is the left inverse of encoding (30_encoding.md R120, R155). -/

namespace Sys2Proof.Machine

/-- Settles O1: one case per format, each by the law of its operand reader (`decode_encode`). -/
theorem decodeEncode : Obligations.DecodeEncode := decode_encode

end Sys2Proof.Machine
end

section
/-! PROOF. A row that names a port handler is that handler's rule (30_encoding.md R130, R145, log 12), and a slot with one
handler runs that rule alone (41_portbus.md R190, R191). -/

namespace Sys2Proof.Machine

/-! ### Rows -/

/-- The row of a writer runs its rule; none of these rules reads the port address. -/
theorem exec_writerRow {h : Writer} {v : Byte} {i : Instr} (hi : writerRow v h = some i) (a : Word) (s : State) :
    exec i s = .next ((runWriter Config.cfg h a v s).setResult .none) := by
  cases h with
  | pal j => match j with
    | 0 | 1 | 2 | 3 => cases hi; rfl
  | _ => cases hi <;> rfl

/-- The row of a reader runs its rule; none of these rules reads the port address or the in/out byte. -/
theorem exec_readerRow {h : Reader} {i : Instr} (hi : readerRow h = some i) (a : Word) (v : Byte) (s : State) :
    exec i s =
      .next ((runReader Config.cfg h a v s).2.setResult (.byte (runReader Config.cfg h a v s).1)) := by
  cases h <;> cases hi <;> rfl

/-- The row of a command runs the command. -/
theorem exec_toInstr (k : FdcCommand) (s : State) :
    exec k.toInstr s = .next ((runCommand Config.cfg k s).setResult .none) := by
  cases k <;> rfl

/-! ### Slots with one handler -/

/-- The slot of a port address is its low byte, whatever the high byte (30_encoding.md R121). -/
@[simp] theorem portSlot_append (hi n : Byte) : portSlot (hi ++ n) = n :=
  BitVec.extractLsb'_append_eq_right

/-- A port write to a slot with one writer is that writer's rule. -/
theorem portWrite_of_singleton (c : Cfg) {a : Word} {e : Entry Writer} (v : Byte) {s : State}
    (h : (s.slots.at (portSlot a)).writers = [e]) : portWrite c a v s = runWriter c e.handler a v s := by
  rw [portWrite, h]
  rfl

/-- A port read of a slot with one reader is that reader's rule on the idle byte. -/
theorem portRead_of_singleton (c : Cfg) {a : Word} {e : Entry Reader} {s : State}
    (h : (s.slots.at (portSlot a)).readers = [e]) : portRead c a s = runReader c e.handler a c.portIdle s := by
  rw [portRead, h]
  rfl

/-- PORTWR runs the slot's writers. -/
theorem exec_portwr (a : Word) (v : Byte) (s : State) :
    exec (.portwr a v) s = .next ((portWrite Config.cfg a v s).setResult .none) := rfl

/-- PORTRD answers the byte of the slot's readers. -/
theorem exec_portrd (a : Word) (s : State) :
    exec (.portrd a) s =
      .next ((portRead Config.cfg a s).2.setResult (.byte (portRead Config.cfg a s).1)) := rfl

/-- Settles O28: the slot's chain is the one handler, whose rule is its row; a byte written to the command register is
the command it decodes to. -/
theorem portRowsAreHandlers : Obligations.PortRowsAreHandlers := by
  refine ⟨fun h v i hi n o s hrow hs => ?_, fun h i hi n o s hrow hs => ?_, fun v s => ?_⟩
  · have hslot : (s.slots.at (portSlot (hi ++ n))).writers = [⟨o, h⟩] := by rw [portSlot_append, hs]
    rw [exec_portwr, portWrite_of_singleton _ v hslot, exec_writerRow hrow (hi ++ n)]
  · have hslot : (s.slots.at (portSlot (hi ++ n))).readers = [⟨o, h⟩] := by rw [portSlot_append, hs]
    rw [exec_portrd, portRead_of_singleton _ hslot, exec_readerRow hrow (hi ++ n) Config.cfg.portIdle]
  · exact ⟨_, exec_writerRow (h := .fdcCmd) rfl 0#16 s, exec_toInstr (fdcCommandOf v) s⟩

end Sys2Proof.Machine
end

section
/-! PROOF. The FDC's computed flags and the bits of its status register (30_encoding.md R150, 10_state.md R73). -/

namespace Sys2Proof.Machine

/-! ### Drives and flags -/

/-- The drive of a number, when there is a number and it names one. -/
theorem Fdc.driveAt_eq_some_iff {f : Fdc} {k : Option (Fin 4)} {d : Drive} :
    f.driveAt k = some d ↔ ∃ i, k = some i ∧ f.drive.get i = some d := Option.bind_eq_some_iff

/-- The current drive is the drive `fcur` names (R62). -/
theorem Fdc.current_eq_some_iff {f : Fdc} {d : Drive} :
    f.current = some d ↔ ∃ k, f.fcur = some k ∧ f.drive.get k = some d := Fdc.driveAt_eq_some_iff

/-- The operation's drive is the drive `fopDrive` names (45_fdc.md R334). -/
theorem Fdc.operating_eq_some_iff {f : Fdc} {d : Drive} :
    f.operating = some d ↔ ∃ k, f.fopDrive = some k ∧ f.drive.get k = some d := Fdc.driveAt_eq_some_iff

/-- BUSY stands for an operation in progress (R60). -/
theorem Fdc.busy_iff {f : Fdc} : f.busy = true ↔ f.fop ≠ .none := decide_eq_true_iff

/-- The FDC is not ready when a current drive, if there is one, holds no image (R73). -/
theorem Fdc.notReady_iff {f : Fdc} : f.notReady = true ↔ ∀ d, f.current = some d → d.image = none := by
  unfold Fdc.notReady
  cases f.current <;> simp

/-- TRACK0 is the head of the current drive on physical track 0 (R73). -/
theorem Fdc.track0_iff {f : Fdc} {d : Drive} (hd : f.current = some d) : f.track0 = true ↔ d.phys = 0 := by
  simp [Fdc.track0, hd]

/-- The current drive's write protection is its image's (30_encoding.md R150, 45_fdc.md R392). -/
theorem Fdc.writeProtect_iff {f : Fdc} {d : Drive} (hd : f.current = some d) :
    f.writeProtect = true ↔ ∃ i, d.image = some i ∧ i.wp = true := by
  cases hi : d.image <;> simp [Fdc.writeProtect, hd, hi]

/-! ### The status register (R150) -/

/-- Bit 7 is NOT READY in every mode. -/
theorem fdcStatus_notReady (c : Cfg) (now : Tick) (f : Fdc) : (fdcStatus c now f).getLsbD 7 = f.notReady := by
  unfold fdcStatus
  split <;> simp only [BitVec.getLsbD_append, BitVec.getLsbD_ofBool] <;> simp

/-- Bit 3 is clear in every mode. -/
theorem fdcStatus_bit3 (c : Cfg) (now : Tick) (f : Fdc) : (fdcStatus c now f).getLsbD 3 = false := by
  unfold fdcStatus
  split <;> simp only [BitVec.getLsbD_append, BitVec.getLsbD_ofBool] <;> simp

/-- Bit 0 is BUSY in every mode. -/
theorem fdcStatus_busy (c : Cfg) (now : Tick) (f : Fdc) : (fdcStatus c now f).getLsbD 0 = f.busy := by
  unfold fdcStatus
  split <;> simp only [BitVec.getLsbD_append, BitVec.getLsbD_ofBool] <;> simp

/-- The other bits after a Type-I command. -/
theorem fdcStatus_bits_of_typeI (c : Cfg) (now : Tick) {f : Fdc} (h : f.fmode = .typeI) :
    (fdcStatus c now f).getLsbD 6 = f.writeProtect ∧ (fdcStatus c now f).getLsbD 5 = f.headLoad ∧
    (fdcStatus c now f).getLsbD 4 = false ∧ (fdcStatus c now f).getLsbD 2 = f.track0 ∧
    (fdcStatus c now f).getLsbD 1 = indexLevel c now := by
  simp only [fdcStatus, h, BitVec.getLsbD_append, BitVec.getLsbD_ofBool]
  simp

/-- The other bits after a Type-II or Type-III command. -/
theorem fdcStatus_bits_of_not_typeI (c : Cfg) (now : Tick) {f : Fdc} (h : f.fmode ≠ .typeI) :
    (fdcStatus c now f).getLsbD 6 = false ∧ (fdcStatus c now f).getLsbD 5 = false ∧
    (fdcStatus c now f).getLsbD 4 = f.rnf ∧ (fdcStatus c now f).getLsbD 2 = f.lostData ∧
    (fdcStatus c now f).getLsbD 1 = f.drq := by
  unfold fdcStatus
  split
  case h_1 hm => exact absurd hm h
  all_goals simp only [BitVec.getLsbD_append, BitVec.getLsbD_ofBool]
  all_goals simp

/-- Settles O46: the bits of the status register are the FDC's flags, each read from the current drive where it is the
drive's; the reader of INTRQ and DRQ is alone in its slot and keeps the state. -/
theorem fdcStatusRead : Obligations.FdcStatusRead := by
  intro s
  refine ⟨⟨fdcStatus Config.cfg s.now s.fdc, rfl, ?_, ?_, fdcStatus_bit3 _ _ _, fun hm => ?_,
    fdcStatus_bits_of_not_typeI _ _⟩, fun a hr => ?_⟩
  · rw [fdcStatus_notReady, Fdc.notReady_iff]
    simp only [Fdc.current_eq_some_iff]
    exact ⟨fun h k d hk hd => h d ⟨k, hk, hd⟩, fun h d ⟨k, hk, hd⟩ => h k d hk hd⟩
  · rw [fdcStatus_busy, Fdc.busy_iff]
  · obtain ⟨hwp, hload, h4, htrack, hindex⟩ := fdcStatus_bits_of_typeI Config.cfg s.now hm
    refine ⟨hload, h4, hindex, fun k d hk hd => ?_⟩
    have hcur : s.fdc.current = some d := Fdc.current_eq_some_iff.2 ⟨k, hk, hd⟩
    exact ⟨by rw [htrack, Fdc.track0_iff hcur], by rw [hwp, Fdc.writeProtect_iff hcur]⟩
  · obtain ⟨e, he, hh⟩ := List.map_eq_singleton_iff.1 hr
    rw [exec_portrd, portRead_of_singleton _ he, hh]
    rfl

end Sys2Proof.Machine
end

section
/-! PROOF. What an index edge does in each operation, and what a byte of a track write does (45_fdc.md R363, R366, R368). -/

namespace Sys2Proof.Machine

/-! ### Index edges -/

/-- An edge starts the read of the ID field of the operation's drive (R363). -/
theorem fdcEdge_idRead (c : Cfg) (t : Tick) {f : Fdc} (n : Nat) {d : Drive} (h : f.fop = .idReadWaitForIndex)
    (hd : f.operating = some d) :
    fdcEdge c t (f, n) =
      ({ f with fbuf := idField c n f.fside d, fidx := 0, fstart := t, fop := .idRead }, n + idDraws) := by
  simp only [fdcEdge, h, hd]

/-- An edge starts a track write (R366). -/
theorem fdcEdge_trackWriteStart (c : Cfg) (t : Tick) {f : Fdc} (n : Nat) (h : f.fop = .trackWriteWaitForIndex) :
    fdcEdge c t (f, n) = ({ f with fop := .trackWriteGap, fstart := t, fidx := 0 }, n) := by
  simp only [fdcEdge, h]

/-- A later edge ends a track write that runs (R368). -/
theorem fdcEdge_trackWriteEnd (c : Cfg) {t : Tick} {f : Fdc} (n : Nat)
    (h : f.fop = .trackWriteGap ∨ f.fop = .trackWriteIdAddr ∨ f.fop = .trackWriteData)
    (ht : f.fstart.toNat < t.toNat) :
    fdcEdge c t (f, n) = ({ f with fop := .none, drq := false, intrq := true }, n) := by
  obtain h | h | h := h <;> simp only [fdcEdge, h, ht, if_true]

/-- The other operations do not see an edge. -/
theorem fdcEdge_unseen (c : Cfg) (t : Tick) {f : Fdc} (n : Nat)
    (h : f.fop = .none ∨ f.fop = .seek ∨ f.fop = .idRead ∨ f.fop = .sectorRead) : fdcEdge c t (f, n) = (f, n) := by
  obtain h | h | h | h := h <;> simp only [fdcEdge, h]

/-- The code of a sector length, or a draw where it has none (30_encoding.md R151). -/
theorem lenCodeOr_eq (c : Cfg) (n len : Nat) :
    lenCodeOr c n len =
      if len = 128 then 0#8 else if len = 256 then 1#8 else if len = 512 then 2#8 else if len = 1024 then 3#8
      else c.freeByte n := by
  simp only [lenCodeOr, lenCode, apply_ite (Option.getD · (c.freeByte n)), Option.getD_some, Option.getD_none]

/-! ### Bytes of a track write -/

/-- A byte taken raises DRQ and is interpreted; `P_LOST_DATA` is false, so a missed slot sets no flag (92 D36). -/
theorem takeByte_eq (c : Cfg) (f : Fdc) :
    takeByte c f = interpretByte f.fdr { f with drq := true, fidx := f.fidx + 1 } := by
  simp only [takeByte, Cfg.lostData, Bool.and_false, Bool.or_false]

/-- In the gap 0xFE opens an ID field, and 0xFB after one its data (R366). -/
theorem interpretByte_gap (b : Byte) {f : Fdc} (h : f.fop = .trackWriteGap) :
    interpretByte b f =
      if b = 0xFE#8 then { f with fop := .trackWriteIdAddr, fwId := [] }
      else if b = 0xFB#8 ∧ f.fwId.length = 4 then { f with fop := .trackWriteData, fwSector := [] }
      else f := by
  simp only [interpretByte, h]

/-- A byte of an ID field is kept, and the fourth ends the field (R366). -/
theorem interpretByte_idAddr (b : Byte) {f : Fdc} (h : f.fop = .trackWriteIdAddr) :
    interpretByte b f =
      { f with
        fwId := f.fwId ++ [b]
        fop := if f.fwId.length + 1 = 4 then .trackWriteGap else .trackWriteIdAddr } := by
  simp only [interpretByte, h, List.length_append, List.length_singleton]

/-- A byte of data is kept, and the last of the announced length completes the sector (R366, R367). -/
theorem interpretByte_data (b : Byte) {f : Fdc} (h : f.fop = .trackWriteData) :
    interpretByte b f =
      if f.fwSector.length + 1 = announcedLen f.fwId then
        { writeSector { f with fwSector := f.fwSector ++ [b] } with fwId := [], fop := .trackWriteGap }
      else { f with fwSector := f.fwSector ++ [b] } := by
  simp only [interpretByte, h, List.length_append, List.length_singleton]

/-- Settles O2: one case per operation that an edge meets, and per part of a track that a byte falls in. -/
theorem trackBytes : Obligations.TrackBytes := by
  refine ⟨fun c t f n => ⟨fun h k d hk hd => ?_, fdcEdge_trackWriteStart c t n, fdcEdge_trackWriteEnd c n,
    fdcEdge_unseen c t n⟩, fun c f => ⟨fun h => ?_, fun h => ?_, fun h => ?_⟩⟩
  · rw [fdcEdge_idRead c t n h (Fdc.operating_eq_some_iff.2 ⟨k, hk, hd⟩), idField, lenCodeOr_eq]
    rfl
  · exact (takeByte_eq c f).trans (interpretByte_gap f.fdr h)
  · exact (takeByte_eq c f).trans (interpretByte_idAddr f.fdr h)
  · exact (takeByte_eq c f).trans (interpretByte_data f.fdr h)

end Sys2Proof.Machine
end

section
/-! PROOF. What MEMRD and MEMWR do for each kind of page: a ROM, a RAM cell, or a peripheral's window
(20_memory.md R84, R90, R95; 40_memory_bus.md R170, R171). -/

namespace Sys2Proof.Machine

/-! ### Windows -/

/-- A card's window reads like a cartridge socket that holds the card only if the card has a memory window. -/
theorem cardRead_eq_cartRead_filter (c : Cfg) (p : Option Periph) (o : BitVec 14) (s : State) :
    cardRead c p o s = cartRead c (p.filter (hasMem c)) o s := by
  cases p with
  | none => rfl
  | some p => cases hp : hasMem c p <;> simp [cardRead, cartRead, Option.filter, hp]

/-- A card's window takes a write like a cartridge socket that holds the card only if it has a memory window. -/
theorem cardWrite_eq_cartWrite_filter (c : Cfg) (p : Option Periph) (o : BitVec 14) (v : Byte) (s : State) :
    cardWrite c p o v s = cartWrite c (p.filter (hasMem c)) o v s := by
  cases p with
  | none => rfl
  | some p => cases hp : hasMem c p <;> simp [cardWrite, cartWrite, Option.filter, hp]

/-- A read where the tag shows a window is the read of what answers there. -/
theorem tagRead_window {c : Cfg} {t : Tag} {o : BitVec 14} {s : State} {p : Option Periph}
    (h : s.window c t o = some p) : tagRead c t o s = cartRead c p o s := by
  cases t with
  | cart => cases h; rfl
  | card k => cases h; exact cardRead_eq_cartRead_filter ..
  | ext =>
    by_cases ho : o.toNat < c.mem.extSplit
    · obtain rfl : _ = p := Option.some.inj ((if_pos ho).symm.trans h)
      exact (if_pos ho).trans (cardRead_eq_cartRead_filter ..)
    · cases (if_neg ho).symm.trans h
  | sys | u _ | vid _ => cases h

/-- A write where the tag shows a window is the write to what answers there. -/
theorem tagWrite_window {c : Cfg} {t : Tag} {o : BitVec 14} {s : State} {p : Option Periph} (v : Byte)
    (h : s.window c t o = some p) : tagWrite c t o v s = cartWrite c p o v s := by
  cases t with
  | cart => cases h; rfl
  | card k => cases h; exact cardWrite_eq_cartWrite_filter ..
  | ext =>
    by_cases ho : o.toNat < c.mem.extSplit
    · obtain rfl : _ = p := Option.some.inj ((if_pos ho).symm.trans h)
      exact (if_pos ho).trans (cardWrite_eq_cartWrite_filter ..)
    · cases (if_neg ho).symm.trans h
  | sys | u _ | vid _ => cases h

/-! ### Cells -/

/-- A read where the tag shows a cell gives the cell's byte and changes nothing. -/
theorem tagRead_cell (c : Cfg) {t : Tag} {o : BitVec 14} {cell : Nat} (h : tagCell t o = some cell) (s : State) :
    tagRead c t o s = (s.mem.read cell, s) := by
  cases t with
  | u _ | vid _ => cases h; rfl
  | sys | ext | cart | card _ => cases h

/-- A write where the tag shows a cell goes to that cell. -/
theorem tagWrite_cell (c : Cfg) {t : Tag} {o : BitVec 14} {cell : Nat} (h : tagCell t o = some cell) (v : Byte)
    (s : State) : tagWrite c t o v s = s.setMem (s.mem.write cell v) := by
  cases t with
  | u _ | vid _ => cases h; rfl
  | sys | ext | cart | card _ => cases h

/-- From s to t the byte v was stored at a cell, every other byte and every other field was kept, and the operation
answered nothing. -/
def State.Stores (s : State) (cell : Nat) (v : Byte) (t : State) : Prop :=
  t.mem.read cell = v ∧ (∀ x : Nat, x ≠ cell → t.mem.read x = s.mem.read x) ∧
    t = { s with mem := t.mem, result := .none }

/-- A write to a memory in canonical form stores the byte and nothing else. -/
theorem State.MemoryOk.stores {s : State} (h : s.MemoryOk) (cell : Nat) (v : Byte) :
    s.Stores cell v ((s.setMem (s.mem.write cell v)).setResult .none) :=
  ⟨Memory.read_write_same cell v h, fun _ hx => Memory.read_write_other v hx h, rfl⟩

/-! ### Rows -/

/-- MEMRD answers the byte read. -/
theorem exec_memrd (a : Word) (s : State) :
    exec (.memrd a) s = .next ((memRead Config.cfg a s).2.setResult (.byte (memRead Config.cfg a s).1)) := rfl

/-- MEMWR answers nothing. -/
theorem exec_memwr (a : Word) (v : Byte) (s : State) :
    exec (.memwr a v) s = .next ((memWrite Config.cfg a v s).setResult .none) := rfl

/-- Settles O16: the page's writer stores the byte in its cell, and a write to RAM rebinds no page, so every page that
showed the cell reads the byte back. -/
theorem memwrStores : Obligations.MemwrStores := by
  intro a v s cell hs hcell
  obtain ⟨hv, hother, hframe⟩ := hs.stores cell v
  refine ⟨_, by rw [exec_memwr, memWrite, tagWrite_cell _ hcell], hv, hother, hframe, fun b hb => ?_⟩
  have hbind : ((s.setMem (s.mem.write cell v)).setResult .none).tagOf b = s.tagOf b := rfl
  rw [exec_memrd, memRead, hbind, tagRead_cell _ hb, hv]

/-- Settles O15: one clause per kind of page, each by the law of the page's reader. -/
theorem memrdAnswers : Obligations.MemrdAnswers := by
  refine ⟨exec_memrd, fun c a s h => ?_, fun c a s h ho => ?_, fun c a s cell h => tagRead_cell c h s,
    fun c a s h => tagRead_window h, fun c a s p h => tagRead_window h, fun c n o s => rfl⟩
  · rw [memRead, h]; rfl
  · rw [memRead, h]; exact if_neg (by omega)

end Sys2Proof.Machine
end

section
/-! PROOF. The debug side channel (40_memory_bus.md R172 to R174): which byte of a store a page and an offset name, and
what a debug read and a debug write of it do. -/

namespace Sys2Proof.Machine

/-! ### Indexes -/

/-- A pair that names offset x of user page k has that cell as its index, in range. -/
theorem debugIndex_userRam_cell (c : Cfg) (s : State) {k : Fin 4} {x : BitVec 14} {pg o : Nat}
    (h : pg * 0x4000 + o = k.val * 0x4000 + x.toNat) :
    debugIndex (debugDesc c s .userRam) pg o = userCell k x ∧ userCell k x < storeSize c s .userRam := by
  have hk := k.isLt
  have hx := x.isLt
  rw [debugIndex_userRam, userCell, storeSize]
  omega

/-- A pair that names offset x of video bank b has as its index that cell's place in video RAM, in range. -/
theorem debugIndex_videoRam_cell (c : Cfg) (s : State) {b : Nat} {x : BitVec 14} {pg o : Nat} (hb : b < c.vidBanks)
    (h : pg * 0x4000 + o = b * 0x4000 + x.toNat) :
    0x10000 + debugIndex (debugDesc c s .videoRam) pg o = videoCell b x ∧
      debugIndex (debugDesc c s .videoRam) pg o < storeSize c s .videoRam := by
  have hx := x.isLt
  rw [debugIndex_videoRam, videoCell, storeSize]
  omega

/-! ### Reads -/

/-- A debug read in range gives the store's byte. -/
theorem debugRead_of_lt {c : Cfg} {d : DbgStore} {pg o : Nat} {s : State}
    (h : debugIndex (debugDesc c s d) pg o < storeSize c s d) :
    debugRead c d pg o s = storeByte c s d (debugIndex (debugDesc c s d) pg o) := if_pos h

/-- A debug read out of range gives 0xFF. -/
theorem debugRead_of_ge {c : Cfg} {d : DbgStore} {pg o : Nat} {s : State}
    (h : storeSize c s d ≤ debugIndex (debugDesc c s d) pg o) : debugRead c d pg o s = 0xFF#8 := if_neg (by omega)

/-- A debug read of user RAM gives the cell's byte. -/
theorem debugRead_userRam (c : Cfg) (s : State) {k : Fin 4} {x : BitVec 14} {pg o : Nat}
    (h : pg * 0x4000 + o = k.val * 0x4000 + x.toNat) :
    debugRead c .userRam pg o s = s.mem.read (userCell k x) := by
  obtain ⟨hi, hlt⟩ := debugIndex_userRam_cell c s h
  rw [debugRead_of_lt (hi ▸ hlt), hi]
  rfl

/-- A debug read of video RAM gives the cell's byte. -/
theorem debugRead_videoRam (c : Cfg) (s : State) {b : Nat} {x : BitVec 14} {pg o : Nat} (hb : b < c.vidBanks)
    (h : pg * 0x4000 + o = b * 0x4000 + x.toNat) :
    debugRead c .videoRam pg o s = s.mem.read (videoCell b x) := by
  obtain ⟨hi, hlt⟩ := debugIndex_videoRam_cell c s hb h
  rw [debugRead_of_lt hlt, storeByte, hi]

/-- Beyond its image a ROM reads 0xFF anyway. -/
theorem ite_romByte (r : List Byte) (i : Nat) : (if i < r.length then romByte r i else 0xFF#8) = romByte r i := by
  split
  · rfl
  · rw [romByte, List.getElem?_eq_none (by omega), Option.getD_none]

/-- A debug read of the system ROM gives its byte, 0xFF beyond the image. -/
theorem debugRead_sys (c : Cfg) (pg o : Nat) (s : State) :
    debugRead c .sys pg o s = romByte s.sysRom (debugIndex (debugDesc c s .sys) pg o) := ite_romByte ..

/-- A debug read of the extension ROM gives its byte, 0xFF beyond the image. -/
theorem debugRead_extRom (c : Cfg) (pg o : Nat) (s : State) :
    debugRead c .extRom pg o s = romByte s.extRom (debugIndex (debugDesc c s .extRom) pg o) := ite_romByte ..

/-- A debug read at an offset of a window gives the window's byte. -/
theorem debugRead_window {c : Cfg} {d : DbgStore} {s : State} (hd : storeSize c s d = 0x4000) (o : BitVec 14) :
    debugRead c d 0 o.toNat s = storeByte c s d o.toNat := by
  have hi := debugIndex_first (debugDesc c s d) o.toNat
  rw [debugRead_of_lt (by rw [hi, hd]; exact o.isLt), hi]

/-- A debug read does not see the paging. -/
theorem debugRead_setPaging (c : Cfg) (d : DbgStore) (pg o : Nat) (s : State) (q : Paging) :
    debugRead c d pg o (s.setPaging q) = debugRead c d pg o s := by
  cases d <;> rfl

/-- DBGRD answers the byte of the debug read and changes nothing. -/
theorem exec_dbgrd (d : DbgStore) (pg o : Nat) (s : State) :
    exec (.dbgrd d pg o) s = .next (s.setResult (.byte (debugRead Config.cfg d pg o s))) := rfl

/-- Settles O19: the debug read of each store at its index, out of range, and under other paging. -/
theorem debugReads : Obligations.DebugReads := by
  refine ⟨fun k x pg o s h => ?_, fun b x pg o s hb h => ?_, fun pg o s => ⟨?_, ?_⟩, fun k o s => ?_,
    fun d pg o s h => ?_, fun d pg o s q => ⟨_, exec_dbgrd d pg o s, ?_⟩⟩
  · rw [exec_dbgrd, debugRead_userRam _ s h]
  · rw [exec_dbgrd, debugRead_videoRam _ s hb h]
  · rw [exec_dbgrd, debugRead_sys]; rfl
  · rw [exec_dbgrd, debugRead_extRom]; rfl
  · intro view
    have hview (p : Option Periph) : debugWindow Config.cfg s p o.toNat = view p :=
      match p with
      | some (.dev _) | some .fdc | none => rfl
    exact ⟨by rw [exec_dbgrd, debugRead_window rfl, storeByte, hview],
      by rw [exec_dbgrd, debugRead_window rfl, storeByte, hview]⟩
  · rw [exec_dbgrd, debugRead_of_ge h]
  · rw [exec_dbgrd, debugRead_setPaging]

/-! ### Writes -/

/-- A debug write of user RAM goes to the cell. -/
theorem debugWrite_userRam (c : Cfg) (v : Byte) (s : State) {k : Fin 4} {x : BitVec 14} {pg o : Nat}
    (h : pg * 0x4000 + o = k.val * 0x4000 + x.toNat) :
    debugWrite c .userRam pg o v s = s.setMem (s.mem.write (userCell k x) v) := by
  obtain ⟨hi, hlt⟩ := debugIndex_userRam_cell c s h
  rw [debugWrite, hi]
  exact if_pos hlt

/-- A debug write of video RAM goes to the cell. -/
theorem debugWrite_videoRam (c : Cfg) (v : Byte) (s : State) {b : Nat} {x : BitVec 14} {pg o : Nat}
    (hb : b < c.vidBanks) (h : pg * 0x4000 + o = b * 0x4000 + x.toNat) :
    debugWrite c .videoRam pg o v s = s.setMem (s.mem.write (videoCell b x) v) := by
  obtain ⟨hi, hlt⟩ := debugIndex_videoRam_cell c s hb h
  rw [← hi]
  exact if_pos hlt

/-- A debug write out of range has no effect. -/
theorem debugWrite_of_ge {c : Cfg} {d : DbgStore} {pg o : Nat} (v : Byte) {s : State}
    (h : storeSize c s d ≤ debugIndex (debugDesc c s d) pg o) : debugWrite c d pg o v s = s := if_neg (by omega)

/-- A debug write of a window has no effect, in range or out of it. -/
theorem debugWrite_window (c : Cfg) {d : DbgStore} (hd : d = .cart ∨ ∃ k, d = .card k) (pg o : Nat) (v : Byte)
    (s : State) : debugWrite c d pg o v s = s := by
  obtain rfl | ⟨k, rfl⟩ := hd <;> exact ite_self s

/-- Settles O20: the debug write of a RAM stores the byte at its index (`State.MemoryOk.stores`); out of range and on a
window nothing is written. -/
theorem debugWrites : Obligations.DebugWrites := by
  refine ⟨fun k x pg o v s hs h => ⟨_, ?_, hs.stores (userCell k x) v⟩,
    fun b x pg o v s hs hb h => ⟨_, ?_, hs.stores (videoCell b x) v⟩,
    fun pg o v s => ⟨fun h => ?_, fun h => ?_⟩, fun pg o v k s => ⟨?_, ?_⟩⟩
  · rw [exec_dbgwr, debugWrite_userRam _ v s h]
  · rw [exec_dbgwr, debugWrite_videoRam _ v s hb h]
  · have hge : storeSize Config.cfg s .userRam ≤ debugIndex (debugDesc Config.cfg s .userRam) pg o :=
      h.trans_eq (debugIndex_userRam ..).symm
    rw [exec_dbgwr, debugWrite_of_ge v hge]
  · have hge : storeSize Config.cfg s .videoRam ≤ debugIndex (debugDesc Config.cfg s .videoRam) pg o :=
      (Nat.mul_comm ..).trans_le (h.trans_eq (debugIndex_videoRam ..).symm)
    rw [exec_dbgwr, debugWrite_of_ge v hge]
  · rw [exec_dbgwr, debugWrite_window _ (.inl rfl)]
  · rw [exec_dbgwr, debugWrite_window _ (.inr ⟨k, rfl⟩)]

end Sys2Proof.Machine
end

section
/-! PROOF. What an access to a device does and which state it can change (44_sound.md R313, 46_backplane.md R400, R401,
log 14, log 17). Every access is `State.accessed` after the catch-up of `State.chipCatchUp`. -/

namespace Sys2Proof.Machine

/-! ### Accesses -/

/-- An access to a numbered peripheral leaves its new state number: there is no chip to catch up and no level to
record. -/
theorem accessed_other (c : Cfg) (n : Nat) (t : Tick) (a : Access) (core : Nat) (s : State) :
    (s.chipCatchUp c (.other n) t).accessed c (.other n) a core = s.setCore (.other n) core := rfl

/-- A sound chip after an access at tick t whose own function on the state number is f: caught up to t, its state number
and register pairs written, its level recorded (44_sound.md R311, R313). -/
def chipAccessed (c : Cfg) (d : Dev) (t : Tick) (a : Access) (f : Nat → Nat) (z : Chip) : Chip :=
  let x := chipAdvance c d t z
  { x with
    core := f x.core
    tone := (c.dev.toneWrites d x.core a).foldl toneWrite x.tone
    events := x.events ++ [(t, c.dev.chipLevel d (f x.core))] }

/-- An access to a sound chip is one change of that chip. -/
theorem accessed_chip (c : Cfg) {d : Dev} (hd : d = .xsnd6 ∨ d = .xsnd4) (a : Access) (f : Nat → Nat) (s : State) :
    (s.chipCatchUp c d s.now).accessed c d a (f ((s.chipCatchUp c d s.now).core c d)) =
      s.overChip (chipAccessed c d s.now a f) d := by
  obtain rfl | rfl := hd <;> rfl

/-! ### Frames -/

/-- A change of the six-channel chip is a change of that device only. -/
theorem onlyDevice_setXsnd6 (s : State) (x : Chip) : s.OnlyDevice .xsnd6 (s.setXsnd6 x) :=
  ⟨rfl, fun h => absurd rfl h, fun _ => rfl, fun _ _ => rfl⟩

/-- A change of the four-channel chip is a change of that device only. -/
theorem onlyDevice_setXsnd4 (s : State) (x : Chip) : s.OnlyDevice .xsnd4 (s.setXsnd4 x) :=
  ⟨rfl, fun _ => rfl, fun h => absurd rfl h, fun _ _ => rfl⟩

/-- A new state number of a numbered peripheral is a change of that device only. -/
theorem onlyDevice_setCore_other (s : State) (n x : Nat) : s.OnlyDevice (.other n) (s.setCore (.other n) x) :=
  ⟨rfl, fun _ => rfl, fun _ => rfl, fun _ h => NatMap.find_put_other _ _ fun hm => h (congrArg Dev.other hm.symm)⟩

/-- An access changes the accessed device only. -/
theorem onlyDevice_accessed (c : Cfg) (d : Dev) (a : Access) (core : Nat) (s : State) :
    s.OnlyDevice d ((s.chipCatchUp c d s.now).accessed c d a core) := by
  cases d with
  | xsnd6 => exact onlyDevice_setXsnd6 s _
  | xsnd4 => exact onlyDevice_setXsnd4 s _
  | other n => exact onlyDevice_setCore_other s n core

/-- A callback changes its device only. -/
theorem onlyDevice_devPeriodic (c : Cfg) (d : Dev) (t : Tick) (s : State) : s.OnlyDevice d (devPeriodic c d t s) := by
  cases d with
  | xsnd6 => exact onlyDevice_setXsnd6 s _
  | xsnd4 => exact onlyDevice_setXsnd4 s _
  | other n => exact onlyDevice_setCore_other s n _

/-- What a handler of the host leaves is its own state number and the handler lists. -/
theorem onlyExt_extDone (s : State) (n x : Nat) (regs : List RegOp) : s.OnlyExt n (s.extDone n x regs) :=
  ⟨rfl, fun _ h => NatMap.find_put_other _ _ h⟩

/-- Settles O18: windows by the law of the page's writer, then the accesses of numbered peripherals and of sound chips,
and the frames of devices and of the host's handlers. -/
theorem deviceAccess : Obligations.DeviceAccess := by
  refine ⟨fun c a v s h => tagWrite_window v h, fun c a v s p h => tagWrite_window v h, fun c n a o v s => ?_,
    fun c d a o v s hd => ?_, fun c d a o v t s => ?_, fun c n a v s => ?_⟩
  · exact ⟨accessed_other c n s.now (.memWrite o v) _ s, Prod.ext rfl (accessed_other c n s.now (.portRead a v) _ s),
      accessed_other c n s.now (.portWrite a v) _ s, accessed_other c n s.now .reset _ s⟩
  · exact ⟨Prod.ext rfl (accessed_chip c hd (.memRead o) (fun k => (c.dev.memRead d k s.now o).2) s),
      accessed_chip c hd (.memWrite o v) (fun k => c.dev.memWrite d k s.now o v) s,
      Prod.ext rfl (accessed_chip c hd (.portRead a v) (fun k => (c.dev.portRead d k s.now a v).2) s),
      accessed_chip c hd (.portWrite a v) (fun k => c.dev.portWrite d k s.now a v) s,
      accessed_chip c hd .reset (fun k => c.dev.reset d k s.now) s⟩
  · exact ⟨onlyDevice_accessed .., onlyDevice_accessed .., onlyDevice_accessed .., onlyDevice_accessed ..,
      onlyDevice_accessed .., onlyDevice_devPeriodic ..⟩
  · exact ⟨onlyExt_extDone .., onlyExt_extDone .., onlyExt_extDone ..⟩

end Sys2Proof.Machine
end

section
/-! PROOF. The three handler lists of a port slot under registration and deregistration (41_portbus.md R193 to R198, R201,
00_scope.md R10), said once over the list. -/

namespace Sys2Proof.Machine

/-! ### Lists -/

/-- A deregistration deletes the last occurrence of the handler, whoever registered it (41_portbus.md R196). -/
theorem map_removeHandler_last {α : Type} [DecidableEq α] {h : α} {k : List (Entry α)} {l m : List α}
    (hk : k.map Entry.handler = l ++ h :: m) (hm : h ∉ m) : (removeHandler h k).map Entry.handler = l ++ m := by
  obtain ⟨a, b, rfl, rfl, hb⟩ := List.map_eq_append_iff.1 hk
  obtain ⟨e, b, rfl, rfl, rfl⟩ := List.map_eq_cons_iff.1 hb
  have he : ∀ x ∈ b, x.handler ≠ e.handler := fun x hx hxe => hm (hxe ▸ List.mem_map_of_mem hx)
  rw [removeHandler_handlers, removeLast_last e a b he, List.map_append]

/-! ### The three lists -/

/-- One of the three handler lists of a slot: how it is taken and replaced, and the two rows that register and
deregister in it. -/
structure Registry (α : Type) [DecidableEq α] where
  list : PortSlot → List (Entry α)
  replace : PortSlot → List (Entry α) → PortSlot
  add : Byte → α → Instr
  remove : Byte → α → Instr
  list_replace : ∀ q l, list (replace q l) = l
  replace_list : ∀ q, replace q (list q) = q
  replace_replace : ∀ q l m, replace (replace q l) m = replace q m
  exec_add : ∀ p h s, exec (add p h) s =
    .next ((s.setSlots (s.slots.put p (replace (s.slots.at p) (list (s.slots.at p) ++ [⟨.host, h⟩])))).setResult .none)
  exec_remove : ∀ p h s, exec (remove p h) s =
    .next ((s.setSlots (s.slots.put p (replace (s.slots.at p) (removeHandler h (list (s.slots.at p)))))).setResult .none)

/-- The readers, by ADDREADER and REMOVEREADER (R193, R196). -/
def readerRegistry : Registry Reader where
  list := PortSlot.readers
  replace q l := { q with readers := l }
  add := .addreader
  remove := .removereader
  list_replace _ _ := rfl
  replace_list _ := rfl
  replace_replace _ _ _ := rfl
  exec_add _ _ _ := rfl
  exec_remove _ _ _ := rfl

/-- The writers, by ADDWRITER and REMOVEWRITER (R194, R197). -/
def writerRegistry : Registry Writer where
  list := PortSlot.writers
  replace q l := { q with writers := l }
  add := .addwriter
  remove := .removewriter
  list_replace _ _ := rfl
  replace_list _ := rfl
  replace_replace _ _ _ := rfl
  exec_add _ _ _ := rfl
  exec_remove _ _ _ := rfl

/-- The reset handlers, by ADDRESET and REMOVERESET (R195, R198). -/
def resetRegistry : Registry Resetter where
  list := PortSlot.resets
  replace q l := { q with resets := l }
  add := .addreset
  remove := .removereset
  list_replace _ _ := rfl
  replace_list _ := rfl
  replace_replace _ _ _ := rfl
  exec_add _ _ _ := rfl
  exec_remove _ _ _ := rfl

section Rows

variable {α : Type} [DecidableEq α] (r : Registry α) (p : Byte) (h : α) (s : State)

/-- A registration appends to its list of its slot, and touches nothing else. -/
theorem Registry.add_appends :
    ∃ t : State, exec (r.add p h) s = .next t ∧ t = { s with slots := t.slots, result := .none } ∧
      t.slots.at p = r.replace (s.slots.at p) (r.list (s.slots.at p) ++ [⟨.host, h⟩]) ∧
      (∀ q : Byte, q ≠ p → t.slots.at q = s.slots.at q) :=
  ⟨_, r.exec_add p h s, rfl, Slots.at_put .., fun _ hq => Slots.at_put_other _ _ hq⟩

/-- A deregistration right after the registration undoes it (R201). -/
theorem Registry.remove_add :
    ∃ t : State, exec (r.add p h) s = .next t ∧ exec (r.remove p h) t = .next (s.setResult .none) := by
  refine ⟨_, r.exec_add p h s, ?_⟩
  rw [r.exec_remove]
  simp only [State.setResult_slots, State.setSlots_slots, Slots.at_put, Slots.put_put, r.list_replace,
    r.replace_replace, removeHandler_append, r.replace_list, Slots.put_at]
  rfl

/-- A deregistration of an absent handler changes nothing. -/
theorem Registry.remove_absent (hl : ∀ e ∈ r.list (s.slots.at p), e.handler ≠ h) :
    exec (r.remove p h) s = .next (s.setResult .none) := by
  rw [r.exec_remove, removeHandler_absent h _ hl, r.replace_list, Slots.put_at]
  rfl

/-- A deregistration takes the last occurrence from its list of its slot, and touches nothing else. -/
theorem Registry.remove_last {l m : List α} (hl : (r.list (s.slots.at p)).map Entry.handler = l ++ h :: m)
    (hm : h ∉ m) :
    ∃ t : State, exec (r.remove p h) s = .next t ∧ (r.list (t.slots.at p)).map Entry.handler = l ++ m ∧
      t = { s with slots := t.slots, result := .none } ∧ (∀ q : Byte, q ≠ p → t.slots.at q = s.slots.at q) ∧
      t.slots.at p = r.replace (s.slots.at p) (r.list (t.slots.at p)) := by
  refine ⟨_, r.exec_remove p h s, ?_, rfl, fun _ hq => Slots.at_put_other _ _ hq, ?_⟩ <;>
    simp only [State.setResult_slots, State.setSlots_slots, Slots.at_put, r.list_replace]
  exact map_removeHandler_last hl hm

end Rows

/-! ### The obligations -/

/-- Settles O23, for each list: the entry appended last is the last occurrence, and the one taken away. -/
theorem addRemoveRoundTrip : Obligations.AddRemoveRoundTrip := fun p s =>
  ⟨fun h => readerRegistry.remove_add p h s, fun h => writerRegistry.remove_add p h s,
    fun h => resetRegistry.remove_add p h s⟩

/-- Settles O24, for each list. -/
theorem registrationAppends : Obligations.RegistrationAppends := fun p s =>
  ⟨fun h => readerRegistry.add_appends p h s, fun h => writerRegistry.add_appends p h s,
    fun h => resetRegistry.add_appends p h s⟩

/-- Settles O25, for each list: an absent handler, and the last occurrence of one that stands. -/
theorem removalTakesLast : Obligations.RemovalTakesLast :=
  ⟨fun p h s => ⟨readerRegistry.remove_absent p h s, fun _ _ => readerRegistry.remove_last p h s⟩,
    fun p h s => ⟨writerRegistry.remove_absent p h s, fun _ _ => writerRegistry.remove_last p h s⟩,
    fun p h s => ⟨resetRegistry.remove_absent p h s, fun _ _ => resetRegistry.remove_last p h s⟩⟩

end Sys2Proof.Machine
end

section
/-! PROOF. A port transaction runs the chain its slot held when it began (41_portbus.md R190, R191, R200, R203, R204): an
empty chain is idle, and a longer one ends in its last handler. -/

namespace Sys2Proof.Machine

/-- The chain of readers ends in its last reader, on the byte and the state the ones before it left. -/
theorem readChain_concat (c : Cfg) (a : Word) (l : List (Entry Reader)) (e : Entry Reader) (x : Byte × State) :
    readChain c a (l ++ [e]) x =
      runReader c e.handler a (readChain c a l x).1 (readChain c a l x).2 := by
  rw [readChain_append]
  rfl

/-- The chain of writers ends in its last writer, on the byte written and the state the ones before it left. -/
theorem writeChain_concat (c : Cfg) (a : Word) (v : Byte) (l : List (Entry Writer)) (e : Entry Writer) (s : State) :
    writeChain c a v (l ++ [e]) s = runWriter c e.handler a v (writeChain c a v l s) := by
  rw [writeChain_append]
  rfl

/-- PORTRD of a slot with the readers l. -/
theorem exec_portrd_of_readers {a : Word} {l : List (Entry Reader)} {s : State}
    (h : (s.slots.at (portSlot a)).readers = l) :
    exec (.portrd a) s =
      .next ((readChain Config.cfg a l (0xFF#8, s)).2.setResult (.byte (readChain Config.cfg a l (0xFF#8, s)).1)) := by
  rw [exec_portrd, portRead, h]
  rfl

/-- PORTWR to a slot with the writers l. -/
theorem exec_portwr_of_writers {a : Word} (v : Byte) {l : List (Entry Writer)} {s : State}
    (h : (s.slots.at (portSlot a)).writers = l) :
    exec (.portwr a v) s = .next ((writeChain Config.cfg a v l s).setResult .none) := by
  rw [exec_portwr, portWrite, h]

/-- Settles O26: no reader leaves the idle byte, and the last reader ends the chain. -/
theorem portReadChain : Obligations.PortReadChain := by
  refine fun a s => ⟨fun h => exec_portrd_of_readers h, fun l e h => ?_⟩
  rw [exec_portrd_of_readers h, readChain_concat]

/-- Settles O27: no writer leaves the state, and the last writer ends the chain. -/
theorem portWriteChain : Obligations.PortWriteChain := by
  refine fun a v s => ⟨fun h => exec_portwr_of_writers v h, fun l e h => ?_⟩
  rw [exec_portwr_of_writers v h, writeChain_concat]

end Sys2Proof.Machine
end

section
/-! PROOF. BUSRESET and RESET as chains of reset handlers (41_portbus.md R192, 46_backplane.md R411,
70_reset_and_hazards.md R490), and what every reset handler keeps (R492, R493). -/

namespace Sys2Proof.Machine

/-! ### The handlers that run, in order -/

/-- The slots in order are those at the port numbers 0 to 255. -/
theorem Slots.toList_eq_map (t : Slots) : t.toList = (List.finRange 256).map fun n => t.at (BitVec.ofFin n) := by
  apply List.ext_getElem
  · simp
  · intro i _ _
    simp [Slots.at, slotIndex, Vector.get_eq_getElem]

/-- The chain of reset handlers is a fold. -/
theorem resetChain_eq_foldl (c : Cfg) (l : List (Entry Resetter)) (s : State) :
    resetChain c l s = l.foldl (fun u e => runReset c e.handler u) s := by
  induction l generalizing s with
  | nil => rfl
  | cons e l ih => exact ih _

/-- BUSRESET runs every slot's reset handlers, slots ascending and in registration order (R192). -/
theorem busReset_eq_foldl (c : Cfg) (s : State) :
    busReset c s =
      ((List.finRange 256).flatMap fun n => (s.slots.at (BitVec.ofFin n)).resets).foldl
        (fun u e => runReset c e.handler u) s := by
  rw [busReset, resetChain_eq_foldl, Slots.toList_eq_map, List.flatMap_map]

/-- The reset handler that is a peripheral's Reset. -/
def periphResetter : Periph → Resetter
  | .fdc => .fdc
  | .dev d => .dev d

/-- The cartridge socket's Reset is the one of what is in it (R411). -/
theorem cartReset_of_some (c : Cfg) {s : State} {p : Periph} (h : s.cart = some p) :
    cartReset c s = runReset c (periphResetter p) s := by
  unfold cartReset
  cases p <;> rw [h] <;> rfl

/-- An empty socket has no Reset. -/
theorem cartReset_of_none (c : Cfg) {s : State} (h : s.cart = none) : cartReset c s = s := by
  unfold cartReset
  rw [h]

/-- A peripheral's Reset does not look at the answer stored, and the operation's end replaces it. -/
theorem done_runReset_setResult (c : Cfg) (p : Periph) (s : State) (x : Answer) :
    done (runReset c (periphResetter p) (s.setResult x)) = done (runReset c (periphResetter p) s) := by
  cases p with
  | fdc => rfl
  | dev d => cases d <;> rfl

/-- BUSRESET answers nothing. -/
theorem exec_busreset (s : State) : exec .busreset s = .next ((busReset Config.cfg s).setResult .none) := rfl

/-- RESET is BUSRESET and then the Reset of what is in the cartridge socket (R490). -/
theorem exec_reset (s : State) :
    exec .reset s = .next ((cartReset Config.cfg (busReset Config.cfg s)).setResult .none) := rfl

/-! ### What the handlers that run keep -/

/-- A property that every registered reset handler keeps is kept by BUSRESET. -/
theorem busReset_keeps {P : State → Prop} (c : Cfg) (s : State)
    (h : ∀ p : Byte, ∀ e ∈ (s.slots.at p).resets, ∀ u, P u → P (runReset c e.handler u)) (hs : P s) :
    P (busReset c s) := by
  refine resetChain_keeps c _ (fun e he => ?_) s hs
  obtain ⟨p, hp⟩ := exists_at_of_mem_resets he
  exact h p e hp

/-- A property that every peripheral's Reset keeps is kept by the cartridge socket's. -/
theorem cartReset_keeps {P : State → Prop} (c : Cfg) (s : State)
    (h : ∀ p u, P u → P (runReset c (periphResetter p) u)) (hs : P s) : P (cartReset c s) := by
  cases hc : s.cart with
  | none => rwa [cartReset_of_none c hc]
  | some p => rw [cartReset_of_some c hc]; exact h p s hs

/-- From f to g no register, selection or drive of the FDC changed (45_fdc.md R396). -/
def Fdc.KeptByReset (f g : Fdc) : Prop :=
  g.fcmd = f.fcmd ∧ g.ftr = f.ftr ∧ g.fsr = f.fsr ∧ g.fdr = f.fdr ∧ g.fcur = f.fcur ∧ g.fside = f.fside ∧
    g.drive = f.drive

theorem Fdc.KeptByReset.refl (f : Fdc) : f.KeptByReset f := ⟨rfl, rfl, rfl, rfl, rfl, rfl, rfl⟩

theorem Fdc.KeptByReset.trans {f g k : Fdc} (h : f.KeptByReset g) (h' : g.KeptByReset k) : f.KeptByReset k := by
  obtain ⟨hcmd, htr, hsr, hdr, hcur, hside, hdrive⟩ := h
  obtain ⟨hcmd', htr', hsr', hdr', hcur', hside', hdrive'⟩ := h'
  exact ⟨hcmd'.trans hcmd, htr'.trans htr, hsr'.trans hsr, hdr'.trans hdr, hcur'.trans hcur, hside'.trans hside,
    hdrive'.trans hdrive⟩

/-- State s with t's values where a reset handler may leave its mark. -/
def State.withResetOf (s t : State) : State :=
  { s with
    paging := t.paging, slots := t.slots, xsnd6 := t.xsnd6, xsnd4 := t.xsnd4, fdc := t.fdc, others := t.others
    exts := t.exts }

/-- From s to t nothing changed that a reset keeps, whatever handlers are registered (70_reset_and_hazards.md R492). -/
def State.KeptByReset (s t : State) : Prop := t = s.withResetOf t ∧ s.fdc.KeptByReset t.fdc

theorem State.KeptByReset.refl (s : State) : s.KeptByReset s := ⟨rfl, .refl _⟩

theorem State.KeptByReset.trans {s t u : State} (h : s.KeptByReset t) (k : t.KeptByReset u) : s.KeptByReset u := by
  obtain ⟨hf, hfdc⟩ := h
  obtain ⟨kf, kfdc⟩ := k
  exact ⟨kf.trans (by rw [hf]; rfl), hfdc.trans kfdc⟩

/-- Every reset handler keeps what a reset keeps. -/
theorem runReset_keptByReset (c : Cfg) (h : Resetter) (s : State) : s.KeptByReset (runReset c h s) := by
  refine ⟨runReset_frame c h s, ?_⟩
  cases h with
  | dev d => simp only [runReset]; rw [devReset_frame]; exact .refl _
  | mapper | fdc | ext n => exact .refl _

/-- A reset handler that is not the host's own registers nothing (log 44). -/
theorem runReset_slots (c : Cfg) {h : Resetter} (s : State) (hh : ∀ n, h ≠ .ext n) :
    (runReset c h s).slots = s.slots := by
  cases h with
  | dev d => simp only [runReset]; rw [devReset_frame]
  | mapper | fdc => rfl
  | ext n => exact absurd rfl (hh n)

/-- No reset handler of the host's own is registered. -/
def State.NoHostReset (s : State) : Prop :=
  ∀ p : Byte, ∀ e ∈ (s.slots.at p).resets, ∀ n : Nat, e.handler ≠ .ext n

/-- From s to t a reset kept what it keeps, and the handler lists unless a handler of the host's own ran. -/
def State.ResetTo (s t : State) : Prop := s.KeptByReset t ∧ (s.NoHostReset → t.slots = s.slots)

theorem State.ResetTo.refl (s : State) : s.ResetTo s := ⟨.refl s, fun _ => rfl⟩

/-- One more handler, which is the host's own only if one is registered. -/
theorem State.ResetTo.runReset {s t : State} (ht : s.ResetTo t) (c : Cfg) {h : Resetter}
    (hh : s.NoHostReset → ∀ n, h ≠ .ext n) : s.ResetTo (runReset c h t) := by
  obtain ⟨hk, hslots⟩ := ht
  exact ⟨hk.trans (runReset_keptByReset c h t), fun hs => (runReset_slots c t (hh hs)).trans (hslots hs)⟩

/-- BUSRESET keeps what a reset keeps. -/
theorem busReset_resetTo (c : Cfg) (s : State) : s.ResetTo (busReset c s) :=
  busReset_keeps c s (fun p e he _ hu => hu.runReset c fun hs => hs p e he) (.refl s)

/-- RESET does too: a peripheral's Reset is no handler of the host's own. -/
theorem cartReset_busReset_resetTo (c : Cfg) (s : State) : s.ResetTo (cartReset c (busReset c s)) :=
  cartReset_keeps c _ (fun p _ hu => hu.runReset c fun _ n => by cases p <;> nofun) (busReset_resetTo c s)

/-- BUSRESET leaves the cartridge socket. -/
theorem busReset_cart (c : Cfg) (s : State) : (busReset c s).cart = s.cart := by
  obtain ⟨⟨hf, _⟩, _⟩ := busReset_resetTo c s
  rw [hf]
  rfl

/-! ### The obligation -/

/-- Settles O33: both resets are chains of handlers that each keep what a reset keeps. -/
theorem resetKeeps : Obligations.ResetKeeps := by
  refine ⟨fun s i hi => ?_, fun s => ?_, fun s => ⟨_, exec_busreset s, ?_⟩⟩
  · have hu : ∃ u : State, exec i s = .next (u.setResult .none) ∧ s.ResetTo u := by
      simp only [List.mem_cons, List.not_mem_nil, or_false] at hi
      obtain rfl | rfl := hi
      · exact ⟨_, exec_busreset s, busReset_resetTo _ s⟩
      · exact ⟨_, exec_reset s, cartReset_busReset_resetTo _ s⟩
    obtain ⟨u, he, ⟨hf, hcmd, htr, hsr, hdr, hcur, hside, hdrive⟩, hslots⟩ := hu
    exact ⟨_, he, congrArg (State.setResult · .none) hf, hcmd, htr, hsr, hdr, hcur, hside, hdrive, hslots⟩
  · rw [exec_busreset, busReset_eq_foldl]
  · have hc := busReset_cart Config.cfg s
    rw [exec_reset]
    cases h : s.cart with
    | none => rw [cartReset_of_none _ (hc.trans h)]; rfl
    | some p =>
      rw [cartReset_of_some _ (hc.trans h)]
      have hr := done_runReset_setResult Config.cfg p (busReset Config.cfg s) .none
      cases p <;> exact hr.symm

end Sys2Proof.Machine
end

section
/-! PROOF. Which ports stay without a reader or without a writer at construction (42_system_ports.md R210, R234): the
base machine's registrations keep to the direction of each system port, and a card's stay in its window. -/

namespace Sys2Proof.Machine

/-! ### Idle directions -/

/-- The system ports with a writer and no reader (R234). -/
def writeOnlyPorts : List Byte :=
  [0x00#8, 0x02#8, 0x03#8, 0x04#8, 0x05#8, 0x06#8, 0x07#8, 0x60#8, 0x61#8, 0x62#8, 0x63#8, 0x70#8]

/-- A registration that gives no write-only system port a reader and no read-only one a writer. -/
def respectsDirection : RegOp → Prop
  | .addReader p _ => p ∉ writeOnlyPorts
  | .addWriter p _ => Cfg.readOnlyPort p = false
  | _ => True

/-- The graphics-mode latch stands at no read-only port (log 6). -/
theorem readOnlyPort_gfxPort (c : Cfg) : Cfg.readOnlyPort c.gfxPort = false := by
  unfold Cfg.gfxPort
  split
  case isTrue => decide
  case isFalse h => exact Bool.eq_false_iff.2 h

/-- Nor does the third paging latch (log 6). -/
theorem readOnlyPort_of_pagePort3 {c : Cfg} {p : Byte} (h : c.pagePort3 = some p) : Cfg.readOnlyPort p = false := by
  obtain ⟨-, hp⟩ := Option.filter_eq_some_iff.1 h
  simpa using hp

/-- The base machine's registrations respect the direction of every system port (R210). -/
theorem baseRegs_respectsDirection (c : Cfg) : ∀ r ∈ baseRegs c, respectsDirection r := by
  unfold baseRegs
  refine List.forall_mem_append.2 ⟨List.forall_mem_append.2 ⟨?_, ?_⟩, ?_⟩
  · simp [respectsDirection, Cfg.readOnlyPort]
  · cases h : c.pagePort3 with
    | none => nofun
    | some p => exact List.forall_mem_singleton.2 (readOnlyPort_of_pagePort3 h)
  · simpa [respectsDirection, writeOnlyPorts, Cfg.readOnlyPort] using readOnlyPort_gfxPort c

/-- A peripheral registers in its own window only (46_backplane.md R402). -/
theorem regPort_of_mem_installRegs {c : Cfg} {k : Fin 4} {p : Periph} {r : RegOp} (h : r ∈ installRegs c k p) :
    ∃ o : Fin 16, regPort r = cardSlot k o := by
  cases p with
  | fdc =>
    simp only [installRegs, List.mem_append, List.mem_cons, List.not_mem_nil, or_false, List.mem_map] at h
    rcases h with (rfl | rfl | rfl | rfl | rfl | rfl | rfl | rfl | rfl | rfl) | ⟨o, -, rfl⟩ <;> exact ⟨_, rfl⟩
  | dev d =>
    simp only [installRegs, List.mem_append, List.mem_singleton, List.mem_map] at h
    rcases h with (⟨o, -, rfl⟩ | ⟨o, -, rfl⟩) | rfl <;> exact ⟨_, rfl⟩

/-- No port of a card window is one of these system ports (30_encoding.md R130, R143). -/
theorem cardSlot_not_idle :
    ∀ (k : Fin 4) (o : Fin 16), cardSlot k o ∉ writeOnlyPorts ∧ Cfg.readOnlyPort (cardSlot k o) = false := by
  decide

/-- A peripheral's registrations respect the direction of every system port. -/
theorem installRegs_respectsDirection (c : Cfg) (k : Fin 4) (p : Periph) :
    ∀ r ∈ installRegs c k p, respectsDirection r := by
  intro r hr
  obtain ⟨o, ho⟩ := regPort_of_mem_installRegs hr
  obtain ⟨hread, hwrite⟩ := cardSlot_not_idle k o
  cases r with
  | addReader q h => obtain rfl : q = cardSlot k o := ho; exact hread
  | addWriter q h => obtain rfl : q = cardSlot k o := ho; exact hwrite
  | _ => trivial

/-- Every handler of construction does (42_system_ports.md R210, 70_reset_and_hazards.md R495). -/
theorem construction_respectsDirection (c : Cfg) :
    (Slots.construction c).All fun r _ => respectsDirection r := by
  have hbase : (Slots.base c).All fun r _ => respectsDirection r :=
    Slots.all_empty.applyAll (baseRegs_respectsDirection c)
  have hcard (k : Fin 4) : ∀ p, c.cards k = some p → ∀ r ∈ installRegs c k p, respectsDirection r :=
    fun p _ => installRegs_respectsDirection c k p
  exact (((hbase.install c 0 (hcard 0)).install c 1 (hcard 1)).install c 2 (hcard 2)).install c 3 (hcard 3)

/-- At construction no write-only system port has a reader. -/
theorem construction_readers_eq_nil (c : Cfg) {n : Byte} (hn : n ∈ writeOnlyPorts) :
    ((Slots.construction c).at n).readers = [] := by
  obtain ⟨hreaders, -, -⟩ := construction_respectsDirection c n
  exact List.eq_nil_iff_forall_not_mem.2 fun e he => hreaders e he hn

/-- At construction no read-only system port has a writer. -/
theorem construction_writers_eq_nil (c : Cfg) {n : Byte} (hn : Cfg.readOnlyPort n = true) :
    ((Slots.construction c).at n).writers = [] := by
  obtain ⟨-, hwriters, -⟩ := construction_respectsDirection c n
  exact List.eq_nil_iff_forall_not_mem.2 fun e he => Bool.eq_false_iff.1 (hwriters e he) hn

/-! ### Ports without a handler -/

/-- A port read of a slot without a reader answers the idle byte (41_portbus.md R190). -/
theorem portRead_of_no_reader (c : Cfg) {a : Word} {s : State} (h : (s.slots.at (portSlot a)).readers = []) :
    portRead c a s = (0xFF#8, s) := by
  rw [portRead, h]
  rfl

/-- A port write to a slot without a writer is ignored (R191). -/
theorem portWrite_of_no_writer (c : Cfg) {a : Word} (v : Byte) {s : State}
    (h : (s.slots.at (portSlot a)).writers = []) : portWrite c a v s = s := by
  rw [portWrite, h]
  rfl

/-- Settles O30: no registration of construction goes against the direction of a system port, so the slot's chain is
empty. -/
theorem systemPortsIdle : Obligations.SystemPortsIdle := by
  refine fun c s hs => ⟨fun n hn hi => portRead_of_no_reader c ?_, fun n hn hi v => portWrite_of_no_writer c v ?_⟩
  · rw [portSlot_append, hs, construction_readers_eq_nil c hn]
  · rw [portSlot_append, hs, construction_writers_eq_nil c (decide_eq_true hn)]

end Sys2Proof.Machine
end

section
/-! PROOF. The read-only system ports: the bytes that the readers of the keyboard, card-ID, ack-status, CRTC and
interrupt-status ports compose (42_system_ports.md R226 to R230, 43_video.md R254, 46_backplane.md R408). -/

namespace Sys2Proof.Machine

/-! ### The card-ID byte (R408) -/

/-- Two bits of slot k: its card's ID, or 0b11 (30_encoding.md R136). -/
theorem cardIdByte_extractLsb' (c : Cfg) (s : State) (k : Fin 4) :
    (cardIdByte c s).extractLsb' (2 * k.val) 2 = cardIdOf c s k := by
  have h : ∀ w x y z : BitVec 2,
      (w ++ x ++ y ++ z).extractLsb' 0 2 = z ∧ (w ++ x ++ y ++ z).extractLsb' 2 2 = y ∧
        (w ++ x ++ y ++ z).extractLsb' 4 2 = x ∧ (w ++ x ++ y ++ z).extractLsb' 6 2 = w := by decide
  obtain ⟨h0, h1, h2, h3⟩ := h (cardIdOf c s 3) (cardIdOf c s 2) (cardIdOf c s 1) (cardIdOf c s 0)
  match k with
  | 0 => exact h0
  | 1 => exact h1
  | 2 => exact h2
  | 3 => exact h3

/-- An empty slot shows 0b11. -/
theorem cardIdOf_empty (c : Cfg) {s : State} {k : Fin 4} (h : s.card.get k = none) : cardIdOf c s k = 0b11#2 := by
  rw [cardIdOf, h]
  rfl

/-- With every slot empty the byte is 0xFF. -/
theorem cardIdByte_empty (c : Cfg) {s : State} (h : ∀ k : Fin 4, s.card.get k = none) : cardIdByte c s = 0xFF#8 := by
  rw [cardIdByte, cardIdOf_empty c (h 0), cardIdOf_empty c (h 1), cardIdOf_empty c (h 2), cardIdOf_empty c (h 3)]
  decide

/-! ### The CRTC registers -/

/-- The indices 0 to 17 select their register (43_video.md R253). -/
theorem crtcSelect_of_lt {i : BitVec 5} (h : i.toNat < 18) : crtcSelect i = some ⟨i.toNat, h⟩ := dif_pos h

/-- An index of 18 or more selects none. -/
theorem crtcSelect_of_not_lt {i : BitVec 5} (h : ¬i.toNat < 18) : crtcSelect i = none := dif_neg h

/-- The read of a CRTC index that selects a register: its value where it is readable, else a draw (R254). -/
theorem crtcDataRead_of_lt (c : Cfg) {s : State} (h : s.video.crtcIdx.toNat < 18) :
    crtcDataRead c s =
      if c.video.crtcRead s.video.crtcIdx.toFin then (s.video.crtc[s.video.crtcIdx.toNat], s) else drawByte c s := by
  rw [crtcDataRead, crtcSelect_of_lt h]
  rfl

/-- The read of another index is a draw. -/
theorem crtcDataRead_of_not_lt (c : Cfg) {s : State} (h : ¬s.video.crtcIdx.toNat < 18) :
    crtcDataRead c s = drawByte c s := by
  rw [crtcDataRead, crtcSelect_of_not_lt h]

/-- IN_CRTCDATA is the CRTC's reader. -/
theorem exec_inCrtcdata (s : State) :
    exec .inCrtcdata s =
      .next ((crtcDataRead Config.cfg s).2.setResult (.byte (crtcDataRead Config.cfg s).1)) :=
  exec_readerRow (h := .crtcData) rfl 0#16 0#8 s

/-- Settles O35: each row is its reader's rule; the card-ID byte is composed slot by slot, and the CRTC read goes by
whether the index selects a register and whether that register is readable. -/
theorem systemReads : Obligations.SystemReads := by
  intro s
  have hcard := exec_readerRow (h := .cardId) rfl 0#16 0#8 s
  refine ⟨exec_readerRow (h := .kbd) rfl 0#16 0#8 s,
    ⟨_, hcard, cardIdByte_extractLsb' Config.cfg s, cardIdByte_empty Config.cfg⟩,
    exec_readerRow (h := .ackStat) rfl 0#16 0#8 s, ?_⟩
  rw [exec_inCrtcdata]
  by_cases h : s.video.crtcIdx.toNat < 18
  · rw [dif_pos h, crtcDataRead_of_lt _ h]
    split <;> rfl
  · rw [dif_neg h, crtcDataRead_of_not_lt _ h]
    rfl

/-! ### The interrupt-status byte (30_encoding.md R135) -/

/-- The flip-flop stands in its bit and polarity, and the other bits are as given. -/
theorem getLsbD_intStatusByte (c : Cfg) (ff : Bool) (v : Byte) {j : Nat} (hj : j < 8) :
    (intStatusByte c ff v).getLsbD j =
      if j = c.mem.intStatusBit.val then (if c.mem.intStatusLow then !ff else ff) else v.getLsbD j := by
  have hmask : (1#8 <<< c.mem.intStatusBit.val).getLsbD j = decide (j = c.mem.intStatusBit.val) := by
    rw [← BitVec.twoPow_eq, BitVec.getLsbD_twoPow]
    simp [eq_comm]
  unfold intStatusByte
  dsimp only
  generalize (if c.mem.intStatusLow then !ff else ff) = bit
  cases bit with
  | true => simp [hmask, Bool.or_comm]
  | false =>
    rw [if_neg Bool.false_ne_true, BitVec.getLsbD_and, BitVec.getLsbD_not, hmask]
    simp [hj, Bool.and_comm]

/-! ### The flip-flop under the sound catch-up (60_exceptions.md R461) -/

/-- A counter step does not clear the flip-flop. -/
theorem stepChannel_flipFlop (c : Cfg) (t : Tick) (i : Fin 2) (x : Sound × Bool) (h : x.2 = true) :
    (stepChannel c t i x).2 = true := by
  unfold stepChannel
  dsimp only
  split
  · exact Bool.or_eq_true_iff.2 (.inl h)
  · exact h

/-- The sound catch-up does not clear it. -/
theorem State.soundCatchUp_flipFlop (c : Cfg) (t : Tick) {s : State} (h : s.intFF = true) :
    (s.soundCatchUp c t).intFF = true :=
  soundAdvance_keeps (P := fun x => x.2 = true) c
    (fun t => soundStep_keeps (P := fun x => x.2 = true) c t (stepChannel_flipFlop c t)) (fun _ _ hx => hx) t
    (s.sound, s.intFF) h

/-- Settles O36: the row is the reader's rule, which composes the byte after the catch-up and takes one draw. -/
theorem intStatusRead : Obligations.IntStatusRead := by
  refine fun s => ⟨_, _, exec_readerRow (h := .intStat) rfl 0#16 0#8 s, rfl, ?_, fun j hj hne => ?_, rfl, rfl,
    State.soundCatchUp_flipFlop _ _, rfl⟩
  · exact (getLsbD_intStatusByte _ _ _ (Fin.isLt _)).trans (if_pos rfl)
  · exact (getLsbD_intStatusByte _ _ _ hj).trans (if_neg hne)

end Sys2Proof.Machine
end

section
/-! PROOF. The write ports of the base machine: the paging latches (42_system_ports.md R214 to R218), the video latches
(R212, R232, 43_video.md R252 to R255), and the interrupt clear and the sound registers (R222, 44_sound.md R296 to
R298). -/

namespace Sys2Proof.Machine

/-! ### Paging -/

/-- With no page bound to `EXT`, the page table does not follow port03 (R216). -/
theorem decodePages_port03 {c : Cfg} {v x y : Byte} (h : ∀ p : Fin 4, (decodePages c v x y).get p ≠ .ext) (x' : Byte) :
    decodePages c v x' y = decodePages c v x y := by
  have hp : ∀ p : Fin 4, decodePage c v x y p ≠ .ext := fun p => by
    simpa [decodePages, Vector.get_eq_getElem] using h p
  exact congrArg Vector.ofFn (funext (decodePage_port03 hp x'))

/-- The third paging latch takes the byte where its port exists (R218, log 12). -/
theorem exec_outPage3 (v : Byte) (s : State) :
    exec (.outPage3 v) s =
      if Config.cfg.pagePort3.isSome then
        .next ((s.setPaging (rebind Config.cfg s.paging.port02 s.paging.port03 v)).setResult .none)
      else .next (s.setResult .none) := by
  change done (page3Write Config.cfg v s) = _
  unfold page3Write
  split <;> rfl

/-- Settles O21: each row rebinds all pages from the latches; a table that shows no `EXT` does not follow port03. -/
theorem pagingPortWrites : Obligations.PagingPortWrites := by
  refine fun v s => ⟨exec_writerRow (h := .paging) rfl 0#16 s, exec_writerRow (h := .extSel) rfl 0#16 s,
    exec_outPage3 v s, fun hbind hext => ?_⟩
  rw [hbind] at hext ⊢
  exact decodePages_port03 hext v

/-! ### Video latches -/

/-- A write to a CRTC index that selects a register stores the byte there (43_video.md R253). -/
theorem crtcDataWrite_of_lt (v : Byte) {s : State} (h : s.video.crtcIdx.toNat < 18) :
    crtcDataWrite v s = s.setVideo { s.video with crtc := s.video.crtc.set s.video.crtcIdx.toNat v h } := by
  rw [crtcDataWrite, crtcSelect_of_lt h]

/-- A write to another index is dropped. -/
theorem crtcDataWrite_of_not_lt (v : Byte) {s : State} (h : ¬s.video.crtcIdx.toNat < 18) : crtcDataWrite v s = s := by
  rw [crtcDataWrite, crtcSelect_of_not_lt h]

/-- OUT_CRTCDATA is the CRTC's writer. -/
theorem exec_outCrtcdata (v : Byte) (s : State) :
    exec (.outCrtcdata v) s = .next ((crtcDataWrite v s).setResult .none) :=
  exec_writerRow (h := .crtcData) rfl 0#16 s

/-- Settles O34: each row is its writer's rule, and the CRTC write goes by whether the index selects a register. -/
theorem latchWrites : Obligations.LatchWrites := by
  refine fun v s => ⟨exec_writerRow (h := .border) rfl 0#16 s, exec_writerRow (h := .pal 0) rfl 0#16 s,
    exec_writerRow (h := .pal 1) rfl 0#16 s, exec_writerRow (h := .pal 2) rfl 0#16 s,
    exec_writerRow (h := .pal 3) rfl 0#16 s, exec_writerRow (h := .gfxMode) rfl 0#16 s,
    exec_writerRow (h := .crtcAddr) rfl 0#16 s, ?_⟩
  rw [exec_outCrtcdata]
  by_cases h : s.video.crtcIdx.toNat < 18
  · rw [dif_pos h, crtcDataWrite_of_lt v h]
  · rw [dif_neg h, crtcDataWrite_of_not_lt v h]

/-! ### Sound -/

/-- Settles O40: each row is its writer's rule, on what the catch-up left; the catch-up touches the generator and the
flip-flop only. -/
theorem soundPortWrites : Obligations.SoundPortWrites := fun _ s =>
  ⟨exec_writerRow (h := .sndFreqL) rfl 0#16 s, exec_writerRow (h := .sndFreqH) rfl 0#16 s,
    exec_writerRow (h := .sndVol) rfl 0#16 s, exec_writerRow (h := .intClr) rfl 0#16 s,
    s.soundCatchUp_frame Config.cfg s.now⟩

end Sys2Proof.Machine
end

section
/-! PROOF. RENDERLINE (43_video.md R258 to R270): what the line index moving on does, what a displayed line does to the
raster registers, and the row it paints, character by character. -/

namespace Sys2Proof.Machine

/-! ### The line index moves on (R258, R269) -/

/-- The line index and the frame counter move on, and after the last line the painted frame is handed over. -/
theorem advanceLine_eq (c : Cfg) (s : State) :
    advanceLine c s =
      { s with
        video :=
          { s.video with
            line := if s.video.line + 1 = c.linesPerFrame then 0 else s.video.line + 1
            frameCount :=
              if s.video.line + 1 = c.linesPerFrame then s.video.frameCount + 1#64 else s.video.frameCount }
        frameOut := if s.video.line + 1 = c.linesPerFrame then s.frameOut ++ [s.video.frameBuf] else s.frameOut } := by
  unfold advanceLine
  split <;> rfl

/-! ### The rows of a frame -/

/-- The row that was set. -/
theorem getD_setRow_self (buf : Frame) (l : Nat) (row : Row) : (setRow buf l row).getD l [] = row := by
  unfold setRow
  split
  case isTrue h => simp [h]
  case isFalse h =>
    have hlen : (buf ++ List.replicate (l - buf.length) []).length = l := by simp; omega
    rw [List.getD_append_right _ _ _ _ hlen.le, hlen, Nat.sub_self]
    rfl

/-- Rows that were never painted read as absent ones. -/
theorem getD_append_unpainted (buf : Frame) (n k : Nat) :
    (buf ++ List.replicate n ([] : Row)).getD k [] = buf.getD k [] := by
  rcases Nat.lt_or_ge k buf.length with hk | hk
  · exact List.getD_append _ _ _ _ hk
  · rw [List.getD_append_right _ _ _ _ hk, List.getD_eq_getElem?_getD, List.getElem?_getD_replicate_default_eq,
      List.getD_eq_default _ _ hk]

/-- Another row stays; one that was never painted is empty (log 18). -/
theorem getD_setRow_ne (buf : Frame) {k l : Nat} (row : Row) (h : k ≠ l) :
    (setRow buf l row).getD k [] = buf.getD k [] := by
  unfold setRow
  split
  case isTrue => simp [List.getElem?_set_ne h.symm]
  case isFalse =>
    rcases Nat.lt_or_gt_of_ne h with hk | hk
    · rw [List.getD_append _ _ _ _ (by simp; omega), getD_append_unpainted]
    · rw [List.getD_eq_default _ _ (by simp; omega), List.getD_eq_default _ _ (by omega)]

/-! ### The raster registers at the start and at the end of a line (R260, R262) -/

/-- The video state a line starts from: reloaded at the first visible line (R260). -/
def lineStart (c : Cfg) (v : Video) : Video := if v.line = c.video.firstVisible then reloadRaster v else v

/-- The reload touches the raster registers only. -/
theorem lineStart_frame (c : Cfg) (v : Video) :
    lineStart c v =
      { v with ma := (lineStart c v).ma, rowStart := (lineStart c v).rowStart, ra := (lineStart c v).ra } := by
  unfold lineStart
  split <;> rfl

section
variable (c : Cfg) (v : Video)

@[simp] theorem lineStart_line : (lineStart c v).line = v.line := by rw [lineStart_frame]

@[simp] theorem lineStart_border : (lineStart c v).border = v.border := by rw [lineStart_frame]

@[simp] theorem lineStart_palette : (lineStart c v).palette = v.palette := by rw [lineStart_frame]

@[simp] theorem lineStart_gfxLatch : (lineStart c v).gfxLatch = v.gfxLatch := by rw [lineStart_frame]

@[simp] theorem lineStart_crtc : (lineStart c v).crtc = v.crtc := by rw [lineStart_frame]

@[simp] theorem lineStart_displayedChars : (lineStart c v).displayedChars = v.displayedChars := by
  simp [Video.displayedChars, Video.reg]

@[simp] theorem lineStart_displayedRows : (lineStart c v).displayedRows = v.displayedRows := by
  simp [Video.displayedRows, Video.reg]

@[simp] theorem lineStart_cursorAddr : (lineStart c v).cursorAddr = v.cursorAddr := by
  simp [Video.cursorAddr, Video.reg]

end

/-- The scanline counter wraps after the fourth scanline of a character row. -/
theorem scanline_wraps_iff (ra : BitVec 2) : ra + 1#2 = 0#2 ↔ ra = 3#2 := by bv_omega

/-- The end of a displayed line: the next scanline, and after the fourth one the next character row. -/
theorem endDisplayLine_eq (ma : BitVec 14) (v : Video) :
    endDisplayLine ma v =
      { v with
        ra := v.ra + 1#2
        ma := if v.ra = 3#2 then ma else v.rowStart
        rowStart := if v.ra = 3#2 then ma else v.rowStart } := by
  unfold endDisplayLine
  simp only [scanline_wraps_iff]
  split
  case isTrue h => rw [h]; rfl
  case isFalse => rfl

/-! ### The characters of a displayed line (R261, R263 to R265) -/

/-- The number of pixels of a character in a mode. -/
def modeDots : GfxMode → Nat
  | .m2 => 8
  | .m4 => 4
  | .m16 => 2

/-- The number of pixels of a character. -/
def charDots (c : Cfg) (v : Video) : Nat := modeDots (gfxMode c v)

/-- The byte of video RAM of the character at a memory address. -/
def charByte (c : Cfg) (v : Video) (bank : Nat) (mem : Memory) (ma : BitVec 14) : Byte :=
  mem.read (videoCell bank (c.video.videoAddr ma v.ra))

/-- Every byte of video RAM gives as many pixels as its mode says. -/
theorem length_unpack (c : Cfg) (v : Video) (b : Byte) : (unpack c v b).length = charDots c v := by
  unfold unpack charDots
  cases gfxMode c v <;> rfl

/-- The address `n` characters after the next one (R270). -/
theorem charAddr_succ (ma : BitVec 14) (n : Nat) :
    ma + 1#14 + BitVec.ofNat 14 n = ma + BitVec.ofNat 14 (n + 1) := by
  rw [BitVec.add_assoc, ← BitVec.ofNat_add, Nat.add_comm]

/-- The address after `n` characters. -/
theorem fetchChars_snd (c : Cfg) (v : Video) (bank : Nat) (mem : Memory) (n : Nat) (ma : BitVec 14) :
    (fetchChars c v bank mem n ma).2 = ma + BitVec.ofNat 14 n := by
  induction n generalizing ma with
  | zero => simp [fetchChars]
  | succ n ih => rw [fetchChars, ih, charAddr_succ]

/-- `n` characters give `n` times the pixels of one. -/
theorem length_fetchChars (c : Cfg) (v : Video) (bank : Nat) (mem : Memory) (n : Nat) (ma : BitVec 14) :
    (fetchChars c v bank mem n ma).1.length = charDots c v * n := by
  induction n generalizing ma with
  | zero => rfl
  | succ n ih => rw [fetchChars, List.length_append, ih, length_unpack, Nat.mul_succ, Nat.add_comm]

/-- Pixel `i` of character `j` comes from the byte at the `j`-th address on. -/
theorem getElem?_fetchChars (c : Cfg) (v : Video) (bank : Nat) (mem : Memory) {n j i : Nat} (hj : j < n)
    (hi : i < charDots c v) (ma : BitVec 14) :
    (fetchChars c v bank mem n ma).1[charDots c v * j + i]? =
      (unpack c v (charByte c v bank mem (ma + BitVec.ofNat 14 j)))[i]? := by
  induction n generalizing ma j with
  | zero => cases hj
  | succ n ih =>
    rw [fetchChars]
    cases j with
    | zero =>
      rw [List.getElem?_append_left (by rw [length_unpack]; simpa using hi)]
      simp [charByte]
    | succ j =>
      have hpos : charDots c v * (j + 1) + i = charDots c v + (charDots c v * j + i) := by rw [Nat.mul_succ]; omega
      rw [List.getElem?_append_right (by rw [length_unpack]; omega), length_unpack, hpos, Nat.add_sub_cancel_left,
        ih (Nat.lt_of_succ_lt_succ hj), charAddr_succ]

/-! ### The row of a displayed line (R261, R266) -/

/-- The pixels of a displayed line with their dim values: border, characters, border. -/
def displayedRow (c : Cfg) (bank : Nat) (mem : Memory) (v : Video) : Row :=
  List.replicate c.video.leftBorder (dot c (borderPixel c v)) ++
    ((fetchChars c v bank mem v.displayedChars v.ma).1.map (dot c) ++
      List.replicate c.video.rightBorder (dot c (borderPixel c v)))

/-- A displayed line paints its row and moves the raster registers on. -/
theorem paintDisplayLine_eq (c : Cfg) (bank : Nat) (mem : Memory) (v : Video) :
    paintDisplayLine c bank mem v =
      { v with
        frameBuf := setRow v.frameBuf v.line (displayedRow c bank mem v)
        ra := v.ra + 1#2
        ma := if v.ra = 3#2 then v.ma + BitVec.ofNat 14 v.displayedChars else v.rowStart
        rowStart := if v.ra = 3#2 then v.ma + BitVec.ofNat 14 v.displayedChars else v.rowStart } := by
  simp [paintDisplayLine, endDisplayLine_eq, fetchChars_snd, displayedRow]

section
variable (c : Cfg) (bank : Nat) (mem : Memory) (v : Video)

theorem length_displayedRow :
    (displayedRow c bank mem v).length =
      c.video.leftBorder + charDots c v * v.displayedChars + c.video.rightBorder := by
  simp [displayedRow, length_fetchChars, Nat.add_assoc]

theorem getElem?_displayedRow_left {j : Nat} (hj : j < c.video.leftBorder) :
    (displayedRow c bank mem v)[j]? = some (dot c (borderPixel c v)) := by
  rw [displayedRow, List.getElem?_append_left (by simpa using hj)]
  simp [hj]

theorem getElem?_displayedRow_right {j : Nat} (hj : j < c.video.rightBorder) :
    (displayedRow c bank mem v)[c.video.leftBorder + charDots c v * v.displayedChars + j]? =
      some (dot c (borderPixel c v)) := by
  rw [displayedRow, ← List.append_assoc, List.getElem?_append_right (by simp [length_fetchChars])]
  simp [length_fetchChars, hj]

/-- Pixel `i` of character `j` is pixel `i` of its byte. -/
theorem getElem?_displayedRow_char {k : Nat} (hk : charDots c v = k) {j i : Nat} (hj : j < v.displayedChars)
    (hi : i < k) :
    (displayedRow c bank mem v)[c.video.leftBorder + k * j + i]? =
      (unpack c v (charByte c v bank mem (v.ma + BitVec.ofNat 14 j)))[i]?.map (dot c) := by
  subst hk
  have hlen : charDots c v * j + i < charDots c v * v.displayedChars := by
    calc charDots c v * j + i < charDots c v * (j + 1) := by rw [Nat.mul_succ]; omega
      _ ≤ _ := Nat.mul_le_mul_left _ hj
  rw [displayedRow, List.getElem?_append_right (by simp; omega), List.length_replicate, Nat.add_assoc,
    Nat.add_sub_cancel_left, List.getElem?_append_left (by simpa [length_fetchChars] using hlen), List.getElem?_map,
    getElem?_fetchChars c v bank mem hj hi]

/-- In the two-colour mode: bit `7 - i`, high bit first, through the palette (R263). -/
theorem getElem?_displayedRow_m2 (hm : gfxMode c v = .m2) {j i : Nat} (hj : j < v.displayedChars) (hi : i < 8) :
    (displayedRow c bank mem v)[c.video.leftBorder + 8 * j + i]? =
      some (dot c (c.video.color (v.palette.get
        (if (charByte c v bank mem (v.ma + BitVec.ofNat 14 j)).getLsbD (7 - i) then 1 else 0)))) := by
  rw [getElem?_displayedRow_char (k := 8) c bank mem v (congrArg modeDots hm) hj hi, unpack, hm]
  interval_cases i <;> rfl

/-- In the four-colour mode: pair `i` through the palette (R264). -/
theorem getElem?_displayedRow_m4 (hm : gfxMode c v = .m4) {j : Nat} (hj : j < v.displayedChars) (i : Fin 4) :
    (displayedRow c bank mem v)[c.video.leftBorder + 4 * j + i.val]? =
      some (dot c (c.video.color (v.palette.get
        (c.video.unpack4 (charByte c v bank mem (v.ma + BitVec.ofNat 14 j)) i)))) := by
  rw [getElem?_displayedRow_char (k := 4) c bank mem v (congrArg modeDots hm) hj i.isLt, unpack, hm]
  fin_cases i <;> rfl

/-- In the 16-colour mode: nibble `i` is the colour itself (R264, R265). -/
theorem getElem?_displayedRow_m16 (hm : gfxMode c v = .m16) {j : Nat} (hj : j < v.displayedChars) (i : Fin 2) :
    (displayedRow c bank mem v)[c.video.leftBorder + 2 * j + i.val]? =
      some (dot c (c.video.color
        ((c.video.unpack16 (charByte c v bank mem (v.ma + BitVec.ofNat 14 j)) i).setWidth 8))) := by
  rw [getElem?_displayedRow_char (k := 2) c bank mem v (congrArg modeDots hm) hj i.isLt, unpack, hm]
  fin_cases i <;> rfl

end

/-! ### The three kinds of line (R258, R267) -/

/-- A line of RENDERLINE before the line index moves on. -/
def paintLine (c : Cfg) (s : State) : State := if crtcValid c s.video then paintValidLine c s else paintNoise c s

theorem renderLine_eq (c : Cfg) (s : State) : renderLine c s = advanceLine c (paintLine c s) := rfl

theorem inWindow_iff (c : Cfg) (v : Video) :
    inWindow c v = true ↔
      c.video.firstVisible ≤ v.line ∧ v.line < c.video.firstVisible + 4 * v.displayedRows := by
  simp [inWindow]

/-- The reload does not move the line into or out of the window. -/
theorem inWindow_lineStart (c : Cfg) (v : Video) : inWindow c (lineStart c v) = inWindow c v := by simp [inWindow]

section
variable {c : Cfg} {s : State}

theorem paintLine_of_noise (h : crtcValid c s.video = false) : paintLine c s = paintNoise c s := by
  simp [paintLine, h]

theorem paintLine_of_displayed (h : crtcValid c s.video = true) (hw : inWindow c s.video = true) :
    paintLine c s =
      (s.setVideo (paintDisplayLine c (s.dispBank c) s.mem (lineStart c s.video))).setIntFF
        (s.intFF || cursorMatch (lineStart c s.video)) := by
  rw [paintLine, if_pos h]
  exact if_pos ((inWindow_lineStart c s.video).trans hw)

theorem paintLine_of_border (h : crtcValid c s.video = true) (hw : ¬inWindow c s.video = true) :
    paintLine c s = s.setVideo (paintBorderLine c (lineStart c s.video)) := by
  rw [paintLine, if_pos h]
  exact if_neg (mt (inWindow_lineStart c s.video).symm.trans hw)

end

/-! ### RENDERLINE -/

/-- A painted line sets its own row; beside the frame buffer it touches the raster registers, the flip-flop and the
draws only. -/
theorem paintLine_frame (c : Cfg) (s : State) :
    ∃ row : Row,
      paintLine c s =
        { s with
          video :=
            { s.video with
              ma := (paintLine c s).video.ma, ra := (paintLine c s).video.ra
              rowStart := (paintLine c s).video.rowStart
              frameBuf := setRow s.video.frameBuf s.video.line row }
          intFF := (paintLine c s).intFF, draws := (paintLine c s).draws } := by
  cases hv : crtcValid c s.video with
  | false =>
    rw [paintLine_of_noise hv]
    exact ⟨_, rfl⟩
  | true =>
    by_cases hw : inWindow c s.video = true
    · rw [paintLine_of_displayed hv hw, paintDisplayLine_eq, lineStart_frame]
      exact ⟨_, rfl⟩
    · rw [paintLine_of_border hv hw, lineStart_frame]
      exact ⟨_, rfl⟩

/-- Settles O37: the painted line changes one row and no register the CPU writes, and the line index then moves on. -/
theorem renderlineAdvances : Obligations.RenderlineAdvances := by
  intro s
  obtain ⟨row, hp⟩ := paintLine_frame Config.cfg s
  have ht : renderLine Config.cfg s = advanceLine Config.cfg (paintLine Config.cfg s) := renderLine_eq _ s
  rw [advanceLine_eq, hp] at ht
  refine ⟨(renderLine Config.cfg s).setResult .none, rfl, ?_⟩
  rw [ht]
  exact ⟨rfl, rfl, rfl, fun l hl => getD_setRow_ne _ row hl, rfl, rfl, rfl, rfl, rfl, rfl⟩

/-- The cursor match at the start of a line: the cursor and displayed characters are those of the CRTC (R268). -/
theorem cursorMatch_lineStart (c : Cfg) (v : Video) :
    cursorMatch (lineStart c v) =
      decide ((lineStart c v).ra = 0#2 ∧ (v.cursorAddr - (lineStart c v).rowStart).toNat < v.displayedChars) := by
  simp [cursorMatch]

/-- Settles O38: the line index moving on leaves the raster registers, and each of the three kinds of line has its own
rule for them. -/
theorem renderlineRaster : Obligations.RenderlineRaster := by
  intro c s v w t
  have ht : t = advanceLine c (paintLine c s) := renderLine_eq c s
  rw [ht, advanceLine_eq]
  split
  case isTrue hv => rw [paintLine_of_noise hv]; exact ⟨rfl, rfl, rfl, rfl, rfl⟩
  case isFalse hn =>
    have hv : crtcValid c s.video = true := Bool.eq_true_of_not_eq_false hn
    split
    case isTrue hw =>
      rw [paintLine_of_displayed hv ((inWindow_iff c s.video).2 hw), paintDisplayLine_eq, cursorMatch_lineStart,
        lineStart_displayedChars]
      exact ⟨rfl, rfl, rfl, rfl, rfl⟩
    case isFalse hw =>
      rw [paintLine_of_border hv (mt (inWindow_iff c s.video).1 hw)]
      exact ⟨rfl, rfl, rfl, rfl, rfl⟩

/-! ### The painted row -/

/-- The row of a displayed line. -/
theorem getD_renderLine_of_displayed {c : Cfg} {s : State} (h : crtcValid c s.video = true)
    (hw : inWindow c s.video = true) :
    (renderLine c s).video.frameBuf.getD s.video.line [] =
      displayedRow c (s.dispBank c) s.mem (lineStart c s.video) := by
  rw [renderLine_eq, advanceLine_eq, paintLine_of_displayed h hw, paintDisplayLine_eq]
  change (setRow _ (lineStart c s.video).line _).getD _ _ = _
  rw [lineStart_line, getD_setRow_self]

/-- The row of a border line. -/
theorem getD_renderLine_of_border {c : Cfg} {s : State} (h : crtcValid c s.video = true)
    (hw : ¬inWindow c s.video = true) :
    (renderLine c s).video.frameBuf.getD s.video.line [] =
      List.replicate c.video.frameWidth (dot c (c.video.color s.video.border)) := by
  rw [renderLine_eq, advanceLine_eq, paintLine_of_border h hw, lineStart_frame]
  exact getD_setRow_self _ _ _

/-- Settles O39: the row of a displayed line is border, characters, border, read at the state the line starts from,
whose latches are those before the line. -/
theorem renderlinePixels : Obligations.RenderlinePixels := by
  intro c s v w left row paint byte dots hv
  split
  case isFalse hw => exact getD_renderLine_of_border hv (mt (inWindow_iff c v).1 hw)
  case isTrue hw =>
    have hrow : row = displayedRow c (s.dispBank c) s.mem w :=
      getD_renderLine_of_displayed hv ((inWindow_iff c v).2 hw)
    have hmode : gfxMode c w = c.video.gfxMode v.gfxLatch := congrArg c.video.gfxMode (lineStart_gfxLatch c v)
    have hchars : w.displayedChars = v.displayedChars := lineStart_displayedChars c v
    have hpalette : w.palette = v.palette := lineStart_palette c v
    have hborder : dot c (borderPixel c w) = paint v.border := congrArg paint (lineStart_border c v)
    have hdots : charDots c w = dots := congrArg modeDots hmode
    rw [hrow, ← hdots, ← hchars, ← hpalette, ← hborder]
    refine ⟨length_displayedRow c _ s.mem w, fun j => getElem?_displayedRow_left c _ s.mem w,
      fun j => getElem?_displayedRow_right c _ s.mem w, fun j hj => ?_⟩
    split
    case h_1 hm => exact fun i => getElem?_displayedRow_m2 c _ s.mem w (hmode.trans hm) hj
    case h_2 hm => exact getElem?_displayedRow_m4 c _ s.mem w (hmode.trans hm) hj
    case h_3 hm => exact getElem?_displayedRow_m16 c _ s.mem w (hmode.trans hm) hj

end Sys2Proof.Machine
end

section
/-! PROOF. The tone channels and the catch-up (44_sound.md R291 to R300, R311 to R313): what one counter step does, what a
catch-up one tick further does, and that a catch-up in two parts is one catch-up. -/

namespace Sys2Proof.Machine

/-! ### One counter step (R291 to R294, R299, R300) -/

/-- A counter at 0xFFF wraps: the divisor is loaded, the postscaler moves on, the level is recorded. -/
theorem stepChannel_of_wrap (c : Cfg) (t : Tick) {i : Fin 2} {x : Sound × Bool}
    (h : (x.1.ch.get i).counter = 0xFFF#12) :
    stepChannel c t i x =
      (recordLevel c t
        { x.1 with ch := x.1.ch.set i.val ⟨soundDiv c x.1 i, ((x.1.ch.get i).post + 1) % c.postLen⟩ i.isLt },
       x.2 || c.snd.irq i (((x.1.ch.get i).post + 1) % c.postLen) x.1.snd05 x.1.snd06) :=
  if_pos h

/-- Any other counter counts up. -/
theorem stepChannel_of_count (c : Cfg) (t : Tick) {i : Fin 2} {x : Sound × Bool}
    (h : (x.1.ch.get i).counter ≠ 0xFFF#12) :
    stepChannel c t i x =
      ({ x.1 with ch := x.1.ch.set i.val ⟨(x.1.ch.get i).counter + 1#12, (x.1.ch.get i).post⟩ i.isLt }, x.2) :=
  if_neg h

/-- A step of one channel leaves the other alone. -/
theorem stepChannel_other (c : Cfg) (t : Tick) {i j : Fin 2} (hj : j ≠ i) (x : Sound × Bool) :
    (stepChannel c t i x).1.ch.get j = x.1.ch.get j := by
  have hne : i.val ≠ j.val := fun he => hj (Fin.ext he.symm)
  by_cases h : (x.1.ch.get i).counter = 0xFFF#12
  · rw [stepChannel_of_wrap c t h]; exact Vector.getElem_set_ne i.isLt _ hne
  · rw [stepChannel_of_count c t h]; exact Vector.getElem_set_ne i.isLt _ hne

/-- Settles O41: a wrap or a count, by the counter. -/
theorem counterStep : Obligations.CounterStep := by
  intro c t i x b k y
  refine ⟨fun j hj => stepChannel_other c t hj (x, b), ?_, stepChannel_frame c t i (x, b)⟩
  split
  case isTrue h =>
    have hy : y = _ := stepChannel_of_wrap c t (x := (x, b)) h
    have hk : y.1.ch.get i = ⟨soundDiv c x i, (k.post + 1) % c.postLen⟩ := by
      rw [hy]; exact Vector.getElem_set_self _
    rw [hk]
    refine ⟨rfl, rfl, ?_, ?_⟩
    · rw [hy]; rfl
    · rw [hy]
  case isFalse h =>
    have hy : y = _ := stepChannel_of_count c t (x := (x, b)) h
    rw [hy]
    exact ⟨Vector.getElem_set_self _, rfl, rfl⟩

/-! ### The built-in generator's catch-up (R292, R299) -/

/-- A catch-up to a tick that is not earlier makes the steps up to it. -/
theorem soundAdvance_of_ge (c : Cfg) {t : Tick} {x : Sound × Bool} (h : x.1.sndTick.toNat ≤ t.toNat) :
    soundAdvance c t x =
      atTick t (soundSteps c (t.toNat / c.prescale - x.1.sndTick.toNat / c.prescale)
        (x.1.sndTick.toNat / c.prescale + 1) x) :=
  if_neg (Nat.not_lt.2 h)

/-- A catch-up to a tick that is not later does nothing. -/
theorem soundAdvance_of_le (c : Cfg) {t : Tick} {x : Sound × Bool} (h : t.toNat ≤ x.1.sndTick.toNat) :
    soundAdvance c t x = x := by
  rcases Nat.lt_or_eq_of_le h with hlt | heq
  · exact if_pos hlt
  · rw [soundAdvance_of_ge c heq.ge, heq, Nat.sub_self, BitVec.eq_of_toNat_eq heq]
    rfl

/-- A catch-up in two parts is one catch-up. -/
theorem soundAdvance_advance (c : Cfg) {t u : Tick} {x : Sound × Bool} (hxt : x.1.sndTick.toNat ≤ t.toNat)
    (htu : t.toNat ≤ u.toNat) : soundAdvance c u (soundAdvance c t x) = soundAdvance c u x := by
  have hd1 : x.1.sndTick.toNat / c.prescale ≤ t.toNat / c.prescale := Nat.div_le_div_right hxt
  have hd2 : t.toNat / c.prescale ≤ u.toNat / c.prescale := Nat.div_le_div_right htu
  have ht := soundAdvance_tick c hxt
  have hn : u.toNat / c.prescale - x.1.sndTick.toNat / c.prescale =
      (t.toNat / c.prescale - x.1.sndTick.toNat / c.prescale) + (u.toNat / c.prescale - t.toNat / c.prescale) := by
    omega
  have hk : x.1.sndTick.toNat / c.prescale + 1 + (t.toNat / c.prescale - x.1.sndTick.toNat / c.prescale) =
      t.toNat / c.prescale + 1 := by omega
  rw [soundAdvance_of_ge c (by rw [ht]; exact htu), ht, soundAdvance_of_ge c hxt, soundSteps_tick,
    soundAdvance_of_ge c (hxt.trans htu), hn, soundSteps_add, hk]
  rfl

/-- A catch-up by one tick makes the step at that tick when it is a multiple of the prescale. -/
theorem soundAdvance_next (c : Cfg) {t : Tick} {x : Sound × Bool} (h : x.1.sndTick.toNat + 1 = t.toNat) :
    soundAdvance c t x = atTick t (if t.toNat % c.prescale = 0 then soundStep c t x else x) := by
  rw [soundAdvance_of_ge c (by omega), ← h, Nat.succ_div]
  split
  case isTrue hd =>
    have hm : (x.1.sndTick.toNat / c.prescale + 1) * c.prescale = t.toNat := by
      have := Nat.div_mul_cancel hd
      rwa [Nat.succ_div_of_dvd hd, h] at this
    rw [if_pos (Nat.mod_eq_zero_of_dvd hd), Nat.add_sub_cancel_left, soundSteps, soundSteps, hm, BitVec.ofNat_toNat,
      BitVec.setWidth_eq]
  case isFalse hd =>
    rw [if_neg (mt Nat.dvd_of_mod_eq_zero hd), Nat.add_zero, Nat.sub_self, soundSteps]

/-- The tick before a tick that is later than another. -/
theorem toNat_pred_tick {t u : Tick} (h : u.toNat < t.toNat) : (t - 1#64).toNat + 1 = t.toNat := by
  bv_omega

/-- A catch-up to a later tick is the catch-up to the tick before it and the step at the tick. -/
theorem soundAdvance_pred (c : Cfg) {t : Tick} {x : Sound × Bool} (h : x.1.sndTick.toNat < t.toNat) :
    soundAdvance c t x =
      atTick t (if t.toNat % c.prescale = 0 then soundStep c t (soundAdvance c (t - 1#64) x)
        else soundAdvance c (t - 1#64) x) := by
  have hp := toNat_pred_tick h
  have hx : x.1.sndTick.toNat ≤ (t - 1#64).toNat := by omega
  rw [← soundAdvance_advance c hx (by omega : _ ≤ t.toNat)]
  exact soundAdvance_next c (by rw [soundAdvance_tick c hx]; exact hp)

/-! ### A chip's catch-up (R311 to R313) -/

/-- A catch-up to a tick that is not earlier makes the steps up to it. -/
theorem chipAdvance_of_ge (c : Cfg) (d : Dev) {t : Tick} {x : Chip} (h : x.tick.toNat ≤ t.toNat) :
    chipAdvance c d t x = { chipSteps c d (t.toNat - x.tick.toNat) (x.tick.toNat + 1) x with tick := t } :=
  if_neg (Nat.not_lt.2 h)

/-- A catch-up to a tick that is not later does nothing. -/
theorem chipAdvance_of_le (c : Cfg) (d : Dev) {t : Tick} {x : Chip} (h : t.toNat ≤ x.tick.toNat) :
    chipAdvance c d t x = x := by
  rcases Nat.lt_or_eq_of_le h with hlt | heq
  · exact if_pos hlt
  · rw [chipAdvance_of_ge c d heq.ge, heq, Nat.sub_self, BitVec.eq_of_toNat_eq heq]
    rfl

/-- A catch-up in two parts is one catch-up. -/
theorem chipAdvance_advance (c : Cfg) (d : Dev) {t u : Tick} {x : Chip} (hxt : x.tick.toNat ≤ t.toNat)
    (htu : t.toNat ≤ u.toNat) : chipAdvance c d u (chipAdvance c d t x) = chipAdvance c d u x := by
  have ht := chipAdvance_tick c d hxt
  have hn : u.toNat - x.tick.toNat = (t.toNat - x.tick.toNat) + (u.toNat - t.toNat) := by omega
  have hk : x.tick.toNat + 1 + (t.toNat - x.tick.toNat) = t.toNat + 1 := by omega
  rw [chipAdvance_of_ge c d (by rw [ht]; exact htu), ht, chipAdvance_of_ge c d hxt, chipSteps_tick,
    chipAdvance_of_ge c d (hxt.trans htu), hn, chipSteps_add, hk]

/-- A catch-up to a later tick is the catch-up to the tick before it and the step at the tick. -/
theorem chipAdvance_pred (c : Cfg) (d : Dev) {t : Tick} {x : Chip} (h : x.tick.toNat < t.toNat) :
    chipAdvance c d t x = { chipStep c d t (chipAdvance c d (t - 1#64) x) with tick := t } := by
  have hp := toNat_pred_tick h
  have hx : x.tick.toNat ≤ (t - 1#64).toNat := by omega
  rw [← chipAdvance_advance c d hx (by omega : _ ≤ t.toNat),
    chipAdvance_of_ge c d (by rw [chipAdvance_tick c d hx]; omega), chipAdvance_tick c d hx, ← hp,
    Nat.add_sub_cancel_left, hp, chipSteps, chipSteps, BitVec.ofNat_toNat, BitVec.setWidth_eq]

/-- Settles O42: the generator's clauses and the chips' are the laws of `soundAdvance` and `chipAdvance`. -/
theorem catchUpInSteps : Obligations.CatchUpInSteps := by
  refine ⟨fun c t s => ⟨fun h => ?_, fun h => ?_, fun u hst htu => ?_⟩,
    fun c d t x => ⟨chipAdvance_of_le c d, fun h => ?_, fun _ => chipAdvance_advance c d⟩⟩
  · rw [State.soundCatchUp, soundAdvance_of_le c (x := (s.sound, s.intFF)) h]
    rfl
  · intro u x
    have hx : (if t.toNat % c.prescale = 0 then soundStep c t (u.sound, u.intFF) else (u.sound, u.intFF)) = x :=
      (ite_and ..).symm
    have hadvance : soundAdvance c t (s.sound, s.intFF) = atTick t x := hx ▸ soundAdvance_pred c h
    rw [State.soundCatchUp, hadvance]
    rfl
  · have h := soundAdvance_advance c (x := (s.sound, s.intFF)) hst htu
    exact congrArg (fun r : Sound × Bool => (s.setSound r.1).setIntFF r.2) h
  · intro u count core
    have hwraps : (u.tone.mapIdx (toneTick c d)).map Prod.snd = u.tone.mapIdx fun i y => (count i y).2 :=
      List.ext_getElem (by simp) fun i _ _ => by simp [count, toneTick]
    rw [chipAdvance_pred c d h, chipStep, hwraps]
    rfl

end Sys2Proof.Machine
end

section
/-! PROOF. RENDER (44_sound.md R303 to R307, R312): the samples of a range, what a RENDER in order answers, and that a range
rendered in two calls is the range rendered in one. -/

namespace Sys2Proof.Machine

/-! ### Samples mixed into a buffer (R305) -/

/-- The samples of the range have their level added, those after it stay. -/
theorem getElem?_mixSamples (f : Nat → Int × Int) (n k : Nat) (l : List (Int × Int)) (j : Nat) :
    (mixSamples f n k l)[j]? = l[j]?.map fun p => if j < n then addPair p (f (k + j)) else p := by
  induction n generalizing k l j with
  | zero => simp [mixSamples]
  | succ n ih =>
    cases l with
    | nil => simp [mixSamples]
    | cons p l =>
      cases j with
      | zero => simp [mixSamples]
      | succ j => simp [mixSamples, ih, Nat.add_assoc, Nat.add_comm 1]

/-- The mix of a range depends on the levels in it only. -/
theorem mixSamples_congr {f g : Nat → Int × Int} {n k : Nat} (h : ∀ j < n, f (k + j) = g (k + j))
    (l : List (Int × Int)) : mixSamples f n k l = mixSamples g n k l := by
  refine List.ext_getElem? fun j => ?_
  rw [getElem?_mixSamples, getElem?_mixSamples]
  by_cases hj : j < n
  · rw [h j hj]
  · simp only [if_neg hj]

/-- The mix of a range is the mix of its first part and the mix of the rest. -/
theorem mixSamples_append (f : Nat → Int × Int) {n : Nat} (m k : Nat) {l : List (Int × Int)} (h : l.length = n)
    (l' : List (Int × Int)) : mixSamples f (n + m) k (l ++ l') = mixSamples f n k l ++ mixSamples f m (k + n) l' := by
  subst h
  induction l generalizing k with
  | nil => simp [mixSamples]
  | cons p l ih => simp [mixSamples, Nat.add_right_comm _ 1 m, ih, Nat.add_assoc, Nat.add_comm 1]

/-! ### Levels and the events a RENDER consumes (R303, R305) -/

/-- A later sample has no earlier tick (R304). -/
theorem sampleTick_mono (c : Cfg) {m n : Nat} (h : m ≤ n) : sampleTick c m ≤ sampleTick c n :=
  Nat.div_le_div_right (Nat.mul_le_mul_right _ h)

/-- With levels in order, consuming those up to a tick changes no level from that tick on. -/
theorem levelAt_consumed {α : Type} {l : List (Tick × α)} (hl : l.Pairwise fun a b => a.1.toNat ≤ b.1.toNat)
    (base : α) {τ t : Nat} (h : τ ≤ t) :
    levelAt (levelAt base l τ) (l.filter fun p => decide (τ < p.1.toNat)) t = levelAt base l t := by
  induction l generalizing base with
  | nil => rfl
  | cons e l ih =>
    obtain ⟨he, hl⟩ := List.pairwise_cons.1 hl
    by_cases hτ : e.1.toNat ≤ τ
    · have hfirst (u : Nat) (hu : τ ≤ u) : levelAt base (e :: l) u = levelAt e.2 l u :=
        congrArg (levelAt · l u) (if_pos (hτ.trans hu))
      rw [List.filter_cons_of_neg (by simpa using hτ), hfirst τ (Nat.le_refl _), hfirst t h, ih hl]
    · have hlater : ∀ p ∈ e :: l, τ < p.1.toNat :=
        List.forall_mem_cons.2 ⟨by omega, fun p hp => Nat.lt_of_lt_of_le (by omega) (he p hp)⟩
      rw [levelAt_later base _ τ hlater, List.filter_eq_self.2 fun p hp => decide_eq_true (hlater p hp)]

/-- Events consumed up to one tick and then up to a later one are those consumed up to the later one. -/
theorem filter_later_later {α : Type} (l : List (Tick × α)) {τ t : Nat} (h : τ ≤ t) :
    (l.filter fun p => decide (τ < p.1.toNat)).filter (fun p => decide (t < p.1.toNat)) =
      l.filter fun p => decide (t < p.1.toNat) := by
  rw [List.filter_filter]
  refine List.filter_congr fun p _ => ?_
  by_cases hp : t < p.1.toNat
  · simp [hp, Nat.lt_of_le_of_lt h hp]
  · simp [hp]

/-- A level recorded after tick τ is none of the events consumed up to τ. -/
theorem filter_later_append {α : Type} (l : List (Tick × α)) {τ : Nat} {t : Tick} (ht : τ < t.toNat) (v : α) :
    (l ++ [(t, v)]).filter (fun p => decide (τ < p.1.toNat)) =
      l.filter (fun p => decide (τ < p.1.toNat)) ++ [(t, v)] := by
  simp [ht]

/-- A level recorded after tick τ changes no level at τ. -/
theorem levelAt_append_later {α : Type} (base : α) (l : List (Tick × α)) {τ : Nat} {t : Tick} (ht : τ < t.toNat) (v : α) :
    levelAt base (l ++ [(t, v)]) τ = levelAt base l τ := by
  rw [levelAt_append, levelAt_later _ _ _ (by simpa using ht)]

/-- The samples of `b .. e - 1` are those of `b .. m - 1` and, from the level and the events left at m, those of
`m .. e - 1`. -/
theorem mixSamples_split {α : Type} (c : Cfg) (f : α → Int × Int) {l : List (Tick × α)}
    (hl : l.Pairwise fun a b => a.1.toNat ≤ b.1.toNat) (base : α) {b m e : Nat} (hbm : b ≤ m) (hme : m ≤ e)
    {buf : List (Int × Int)} (hbuf : buf.length = m - b) (buf' : List (Int × Int)) :
    mixSamples (fun n => f (levelAt base l (sampleTick c n))) (e - b) b (buf ++ buf') =
      mixSamples (fun n => f (levelAt base l (sampleTick c n))) (m - b) b buf ++
        mixSamples (fun n => f (levelAt (levelAt base l (sampleTick c m))
          (l.filter fun p => decide (sampleTick c m < p.1.toNat)) (sampleTick c n))) (e - m) m buf' := by
  have hn : e - b = (m - b) + (e - m) := by omega
  rw [hn, mixSamples_append _ _ _ hbuf, Nat.add_sub_cancel' hbm]
  refine congrArg _ (mixSamples_congr (fun j _ => ?_) _)
  rw [levelAt_consumed hl base (sampleTick_mono c (Nat.le_add_right m j))]

/-! ### The built-in generator rendered and caught up (R299, R305) -/

/-- Two generators that every counter step after tick τ takes to related ones are related after steps that start after
τ and end by a tick. -/
theorem soundSteps_rel {R : Sound × Bool → Sound × Bool → Prop} (c : Cfg) {τ : Nat}
    (hstep : ∀ t x y, τ < t.toNat → R x y → R (soundStep c t x) (soundStep c t y)) {t : Tick} (n k : Nat)
    {x y : Sound × Bool} (hxy : R x y) (hk : τ < k * c.prescale) (hkt : (k + n) * c.prescale ≤ t.toNat + c.prescale) :
    R (soundSteps c n k x) (soundSteps c n k y) := by
  induction n generalizing k x y with
  | zero => exact hxy
  | succ n ih =>
    have hle : (k + 1) * c.prescale ≤ (k + (n + 1)) * c.prescale := Nat.mul_le_mul_right _ (by omega)
    have hk1 : (k + 1) * c.prescale = k * c.prescale + c.prescale := Nat.succ_mul _ _
    have hv : (BitVec.ofNat 64 (k * c.prescale)).toNat = k * c.prescale :=
      Nat.mod_eq_of_lt (by have := t.isLt; omega)
    exact ih (k + 1) (hstep _ _ _ (by omega) hxy) (by omega) (by rw [Nat.add_assoc, Nat.add_comm 1 n]; exact hkt)

/-- The same for a catch-up of two generators that have come to the same tick, not before τ. -/
theorem soundAdvance_rel {R : Sound × Bool → Sound × Bool → Prop} (c : Cfg) {τ : Nat}
    (hstep : ∀ t x y, τ < t.toNat → R x y → R (soundStep c t x) (soundStep c t y))
    (htick : ∀ t x y, R x y → R (atTick t x) (atTick t y)) (t : Tick) {x y : Sound × Bool} (hxy : R x y)
    (htk : y.1.sndTick = x.1.sndTick) (hτ : τ ≤ x.1.sndTick.toNat) : R (soundAdvance c t x) (soundAdvance c t y) := by
  rcases Nat.le_total t.toNat x.1.sndTick.toNat with h | h
  · rw [soundAdvance_of_le c h, soundAdvance_of_le c (htk ▸ h)]
    exact hxy
  · have hp : 0 < c.prescale := Nat.succ_pos _
    have hlt := Nat.lt_div_mul_add (a := x.1.sndTick.toNat) hp
    have hd : x.1.sndTick.toNat / c.prescale ≤ t.toNat / c.prescale := Nat.div_le_div_right h
    have hm : t.toNat / c.prescale * c.prescale ≤ t.toNat := Nat.div_mul_le_self _ _
    have hn : x.1.sndTick.toNat / c.prescale + 1 + (t.toNat / c.prescale - x.1.sndTick.toNat / c.prescale) =
        t.toNat / c.prescale + 1 := by omega
    rw [soundAdvance_of_ge c h, soundAdvance_of_ge c (htk ▸ h), htk]
    refine htick _ _ _ (soundSteps_rel c hstep (t := t) _ _ hxy ?_ ?_)
    · rw [Nat.succ_mul]; omega
    · rw [hn, Nat.succ_mul]; omega

/-- A generator that has consumed its events up to tick τ. -/
def Sound.consumed (base : Int) (τ n : Nat) (x : Sound) : Sound :=
  { x with sndBase := base, sndEvents := x.sndEvents.filter fun p => decide (τ < p.1.toNat), lastEnd := n }

/-- What a RENDER leaves of a generator. -/
theorem Sound.render_snd (c : Cfg) (buf : List (Int × Int)) (b e : Nat) (x : Sound) :
    (x.render c buf b e).2 = x.consumed (levelAt x.sndBase x.sndEvents (sampleTick c e)) (sampleTick c e) e := rfl

/-- A counter step after tick τ is the same on a generator that has consumed its events up to τ. -/
theorem stepChannel_consumed (c : Cfg) (base : Int) {τ : Nat} (n : Nat) {t : Tick} (ht : τ < t.toNat) (i : Fin 2)
    (x : Sound × Bool) :
    stepChannel c t i (x.1.consumed base τ n, x.2) =
      ((stepChannel c t i x).1.consumed base τ n, (stepChannel c t i x).2) := by
  by_cases h : (x.1.ch.get i).counter = 0xFFF#12
  · rw [stepChannel_of_wrap c t h, stepChannel_of_wrap c t (x := (x.1.consumed base τ n, x.2)) h]
    simp only [Sound.consumed, recordLevel, filter_later_append _ ht]
    rfl
  · rw [stepChannel_of_count c t h, stepChannel_of_count c t (x := (x.1.consumed base τ n, x.2)) h]
    rfl

/-- The same for a step of both channels. -/
theorem soundStep_consumed (c : Cfg) (base : Int) {τ : Nat} (n : Nat) {t : Tick} (ht : τ < t.toNat) (x : Sound × Bool) :
    soundStep c t (x.1.consumed base τ n, x.2) =
      ((soundStep c t x).1.consumed base τ n, (soundStep c t x).2) := by
  have he : soundEnabled c (x.1.consumed base τ n) = soundEnabled c x.1 := rfl
  unfold soundStep
  rw [he]
  split
  · rw [stepChannel_consumed c base n ht, stepChannel_consumed c base n ht]
  · rfl

/-- A catch-up from tick τ on is the same on a generator that has consumed its events up to τ. -/
theorem soundAdvance_consumed (c : Cfg) (base : Int) {τ : Nat} (n : Nat) (t : Tick) {x : Sound × Bool}
    (hτ : τ ≤ x.1.sndTick.toNat) :
    soundAdvance c t (x.1.consumed base τ n, x.2) =
      ((soundAdvance c t x).1.consumed base τ n, (soundAdvance c t x).2) :=
  soundAdvance_rel (R := fun x y => y = (x.1.consumed base τ n, x.2)) c
    (fun _ x _ ht hy => hy ▸ soundStep_consumed c base n ht x) (fun _ _ _ hy => hy ▸ rfl) t rfl rfl hτ

/-- The generator's level at a tick (R303). -/
def Sound.level (x : Sound) (τ : Nat) : Int := levelAt x.sndBase x.sndEvents τ

/-- A counter step after a tick does not change the level at it. -/
theorem stepChannel_level (c : Cfg) {τ : Nat} {t : Tick} (ht : τ < t.toNat) (i : Fin 2) (x : Sound × Bool) :
    (stepChannel c t i x).1.level τ = x.1.level τ := by
  have hbase : (stepChannel c t i x).1.sndBase = x.1.sndBase := by rw [stepChannel_frame]
  unfold Sound.level
  rcases stepChannel_events c t i x with he | ⟨v, he⟩
  · rw [hbase, he]
  · rw [hbase, he, levelAt_append_later _ _ ht]

/-- A catch-up from a tick on changes no level up to that tick. -/
theorem soundAdvance_level (c : Cfg) {τ : Nat} (t : Tick) {x : Sound × Bool} (hτ : τ ≤ x.1.sndTick.toNat) :
    (soundAdvance c t x).1.level τ = x.1.level τ :=
  soundAdvance_rel (R := fun y _ => y.1.level τ = x.1.level τ) c
    (fun u y _ hu => soundStep_keeps (P := fun y => y.1.level τ = x.1.level τ) c u
      (fun i z hz => (stepChannel_level c hu i z).trans hz) y)
    (fun _ _ _ hy => hy) t (y := x) rfl rfl hτ

/-- A generator that has come to the end of a range renders it the same before and after a further catch-up. -/
theorem Sound.render_advance (c : Cfg) (buf : List (Int × Int)) (b : Nat) {m : Nat} (t : Tick) {x : Sound × Bool}
    (hm : sampleTick c m ≤ x.1.sndTick.toNat) :
    ((soundAdvance c t x).1.render c buf b m).1 = (x.1.render c buf b m).1 ∧
      soundAdvance c t ((x.1.render c buf b m).2, x.2) =
        (((soundAdvance c t x).1.render c buf b m).2, (soundAdvance c t x).2) := by
  constructor
  · refine mixSamples_congr (fun j hj => ?_) buf
    have hlevel := soundAdvance_level c t ((sampleTick_mono c (by omega : b + j ≤ m)).trans hm)
    exact congrArg (fun v => (v, v)) hlevel
  · rw [Sound.render_snd, Sound.render_snd, soundAdvance_consumed c _ _ t hm]
    exact congrArg (fun v => ((soundAdvance c t x).1.consumed v _ _, _)) (soundAdvance_level c t hm).symm

/-- A generator that has come to the end of a range gives in two parts what it gives at once. -/
theorem Sound.render_append (c : Cfg) {x : Sound} (hx : InOrder x.sndEvents x.sndTick) {b m e : Nat} (hbm : b ≤ m)
    (hme : m ≤ e) {buf : List (Int × Int)} (hbuf : buf.length = m - b) (buf' : List (Int × Int)) :
    x.render c (buf ++ buf') b e =
      ((x.render c buf b m).1 ++ ((x.render c buf b m).2.render c buf' m e).1,
        ((x.render c buf b m).2.render c buf' m e).2) := by
  have hτ := sampleTick_mono c hme
  refine Prod.ext (mixSamples_split c (fun v => (v, v)) hx.1 x.sndBase hbm hme hbuf buf') ?_
  simp only [Sound.render, levelAt_consumed hx.1 x.sndBase hτ, filter_later_later x.sndEvents hτ]

/-- A catch-up comes to its tick. -/
theorem le_soundAdvance_tick (c : Cfg) (t : Tick) (x : Sound × Bool) :
    t.toNat ≤ (soundAdvance c t x).1.sndTick.toNat := by
  rcases Nat.le_total t.toNat x.1.sndTick.toNat with h | h
  · rw [soundAdvance_of_le c h]; exact h
  · rw [soundAdvance_tick c h]

/-- A catch-up after one that is not later is as if that one had not been. -/
theorem soundAdvance_absorb (c : Cfg) {t u : Tick} (h : t.toNat ≤ u.toNat) (x : Sound × Bool) :
    soundAdvance c u (soundAdvance c t x) = soundAdvance c u x := by
  rcases Nat.le_total t.toNat x.1.sndTick.toNat with ht | ht
  · rw [soundAdvance_of_le c ht]
  · exact soundAdvance_advance c ht h

/-- The generator caught up to the end of a range and rendered, with the flip-flop. -/
def Sound.renderTo (c : Cfg) (buf : List (Int × Int)) (b e : Nat) (x : Sound × Bool) :
    List (Int × Int) × (Sound × Bool) :=
  let y := soundAdvance c (BitVec.ofNat 64 (sampleTick c e)) x
  ((y.1.render c buf b e).1, ((y.1.render c buf b e).2, y.2))

/-- The tick of a sample that has come. -/
theorem toNat_sampleTick {c : Cfg} {n : Nat} {now : Tick} (h : sampleTick c n ≤ now.toNat) :
    (BitVec.ofNat 64 (sampleTick c n)).toNat = sampleTick c n :=
  Nat.mod_eq_of_lt (Nat.lt_of_le_of_lt h now.isLt)

/-- Split invariance of the built-in generator (R306). -/
theorem Sound.renderTo_append (c : Cfg) {x : Sound × Bool} (hx : InOrder x.1.sndEvents x.1.sndTick) {b m e : Nat}
    (hbm : b ≤ m) (hme : m ≤ e) {now : Tick} (he : sampleTick c e ≤ now.toNat) {buf : List (Int × Int)}
    (hbuf : buf.length = m - b) (buf' : List (Int × Int)) :
    Sound.renderTo c (buf ++ buf') b e x =
      ((Sound.renderTo c buf b m x).1 ++ (Sound.renderTo c buf' m e (Sound.renderTo c buf b m x).2).1,
        (Sound.renderTo c buf' m e (Sound.renderTo c buf b m x).2).2) := by
  have hτ := sampleTick_mono c hme
  have hm := toNat_sampleTick (hτ.trans he)
  have habsorb := soundAdvance_absorb c ((hm.trans_le hτ).trans_eq (toNat_sampleTick he).symm) x
  obtain ⟨hout, hgen⟩ := Sound.render_advance c buf b (BitVec.ofNat 64 (sampleTick c e))
    (hm.symm.le.trans (le_soundAdvance_tick c (BitVec.ofNat 64 (sampleTick c m)) x))
  rw [habsorb] at hout hgen
  simp only [Sound.renderTo, ← hout, hgen]
  rw [Sound.render_append c (soundAdvance_inOrder c _ x hx) hbm hme hbuf buf']

/-! ### A chip rendered and caught up (R312, R313) -/

/-- Two chips that every tick after tick τ takes to related ones are related after the ticks that start after τ. -/
theorem chipSteps_rel {R : Chip → Chip → Prop} (c : Cfg) (d : Dev) {τ : Nat}
    (hstep : ∀ t x y, τ < t.toNat → R x y → R (chipStep c d t x) (chipStep c d t y)) (t : Tick) (n k : Nat) {x y : Chip}
    (hxy : R x y) (hk : τ < k) (hkt : k + n ≤ t.toNat + 1) : R (chipSteps c d n k x) (chipSteps c d n k y) := by
  induction n generalizing k x y with
  | zero => exact hxy
  | succ n ih =>
    have hv : (BitVec.ofNat 64 k).toNat = k := Nat.mod_eq_of_lt (by have := t.isLt; omega)
    exact ih (k + 1) (hstep _ _ _ (by omega) hxy) (by omega) (by omega)

/-- The same for a catch-up of two chips that have come to the same tick, not before τ. -/
theorem chipAdvance_rel {R : Chip → Chip → Prop} (c : Cfg) (d : Dev) {τ : Nat}
    (hstep : ∀ t x y, τ < t.toNat → R x y → R (chipStep c d t x) (chipStep c d t y))
    (htick : ∀ (t : Tick) x y, R x y → R { x with tick := t } { y with tick := t }) (t : Tick) {x y : Chip} (hxy : R x y)
    (htk : y.tick = x.tick) (hτ : τ ≤ x.tick.toNat) : R (chipAdvance c d t x) (chipAdvance c d t y) := by
  rcases Nat.le_total t.toNat x.tick.toNat with h | h
  · rw [chipAdvance_of_le c d h, chipAdvance_of_le c d (htk ▸ h)]
    exact hxy
  · rw [chipAdvance_of_ge c d h, chipAdvance_of_ge c d (htk ▸ h), htk]
    exact htick _ _ _ (chipSteps_rel c d hstep t _ _ hxy (by omega) (by omega))

/-- A chip that has consumed its events up to tick τ. -/
def Chip.consumed (base : Int × Int) (τ n : Nat) (x : Chip) : Chip :=
  { x with base := base, events := x.events.filter fun p => decide (τ < p.1.toNat), lastEnd := n }

/-- What a RENDER leaves of a chip. -/
theorem Chip.render_snd (c : Cfg) (buf : List (Int × Int)) (b e : Nat) (x : Chip) :
    (x.render c buf b e).2 = x.consumed (levelAt x.base x.events (sampleTick c e)) (sampleTick c e) e := rfl

/-- A chip's tick after tick τ is the same on a chip that has consumed its events up to τ. -/
theorem chipStep_consumed (c : Cfg) (d : Dev) (base : Int × Int) {τ : Nat} (n : Nat) {t : Tick} (ht : τ < t.toNat)
    (x : Chip) : chipStep c d t (x.consumed base τ n) = (chipStep c d t x).consumed base τ n := by
  unfold chipStep Chip.consumed
  dsimp only
  split
  · rfl
  · rw [filter_later_append _ ht]

/-- A catch-up from tick τ on is the same on a chip that has consumed its events up to τ. -/
theorem chipAdvance_consumed (c : Cfg) (d : Dev) (base : Int × Int) {τ : Nat} (n : Nat) (t : Tick) {x : Chip}
    (hτ : τ ≤ x.tick.toNat) : chipAdvance c d t (x.consumed base τ n) = (chipAdvance c d t x).consumed base τ n :=
  chipAdvance_rel (R := fun x y => y = x.consumed base τ n) c d
    (fun _ x _ ht hy => hy ▸ chipStep_consumed c d base n ht x) (fun _ _ _ hy => hy ▸ rfl) t rfl rfl hτ

/-- A chip's level at a tick (R303, R312). -/
def Chip.level (x : Chip) (τ : Nat) : Int × Int := levelAt x.base x.events τ

/-- A chip's tick after a tick does not change the level at it. -/
theorem chipStep_level (c : Cfg) (d : Dev) {τ : Nat} {t : Tick} (ht : τ < t.toNat) (x : Chip) :
    (chipStep c d t x).level τ = x.level τ := by
  unfold chipStep Chip.level
  dsimp only
  split
  · rfl
  · rw [levelAt_append_later _ _ ht]

/-- A catch-up from a tick on changes no level up to that tick. -/
theorem chipAdvance_level (c : Cfg) (d : Dev) {τ : Nat} (t : Tick) {x : Chip} (hτ : τ ≤ x.tick.toNat) :
    (chipAdvance c d t x).level τ = x.level τ :=
  chipAdvance_rel (R := fun y _ => y.level τ = x.level τ) c d
    (fun _ y _ hu hy => (chipStep_level c d hu y).trans hy) (fun _ _ _ hy => hy) t (y := x) rfl rfl hτ

/-- A chip that has come to the end of a range renders it the same before and after a further catch-up. -/
theorem Chip.render_advance (c : Cfg) (d : Dev) (buf : List (Int × Int)) (b : Nat) {m : Nat} (t : Tick) {x : Chip}
    (hm : sampleTick c m ≤ x.tick.toNat) :
    ((chipAdvance c d t x).render c buf b m).1 = (x.render c buf b m).1 ∧
      chipAdvance c d t (x.render c buf b m).2 = ((chipAdvance c d t x).render c buf b m).2 := by
  constructor
  · refine mixSamples_congr (fun j hj => ?_) buf
    exact chipAdvance_level c d t ((sampleTick_mono c (by omega : b + j ≤ m)).trans hm)
  · rw [Chip.render_snd, Chip.render_snd, chipAdvance_consumed c d _ _ t hm]
    exact congrArg (fun v => (chipAdvance c d t x).consumed v _ _) (chipAdvance_level c d t hm).symm

/-- A chip that has come to the end of a range gives in two parts what it gives at once. -/
theorem Chip.render_append (c : Cfg) {x : Chip} (hx : InOrder x.events x.tick) {b m e : Nat} (hbm : b ≤ m) (hme : m ≤ e)
    {buf : List (Int × Int)} (hbuf : buf.length = m - b) (buf' : List (Int × Int)) :
    x.render c (buf ++ buf') b e =
      ((x.render c buf b m).1 ++ ((x.render c buf b m).2.render c buf' m e).1,
        ((x.render c buf b m).2.render c buf' m e).2) := by
  have hτ := sampleTick_mono c hme
  refine Prod.ext (mixSamples_split c id hx.1 x.base hbm hme hbuf buf') ?_
  simp only [Chip.render, levelAt_consumed hx.1 x.base hτ, filter_later_later x.events hτ]

/-- A catch-up comes to its tick. -/
theorem le_chipAdvance_tick (c : Cfg) (d : Dev) (t : Tick) (x : Chip) : t.toNat ≤ (chipAdvance c d t x).tick.toNat := by
  rcases Nat.le_total t.toNat x.tick.toNat with h | h
  · rw [chipAdvance_of_le c d h]; exact h
  · rw [chipAdvance_tick c d h]

/-- A catch-up after one that is not later is as if that one had not been. -/
theorem chipAdvance_absorb (c : Cfg) (d : Dev) {t u : Tick} (h : t.toNat ≤ u.toNat) (x : Chip) :
    chipAdvance c d u (chipAdvance c d t x) = chipAdvance c d u x := by
  rcases Nat.le_total t.toNat x.tick.toNat with ht | ht
  · rw [chipAdvance_of_le c d ht]
  · exact chipAdvance_advance c d ht h

/-- A catch-up keeps a chip's recorded levels in order up to its tick. -/
theorem chipAdvance_inOrder (c : Cfg) (d : Dev) (t : Tick) {x : Chip} (h : InOrder x.events x.tick) :
    InOrder (chipAdvance c d t x).events (chipAdvance c d t x).tick := by
  rcases Nat.le_total t.toNat x.tick.toNat with ht | ht
  · rw [chipAdvance_of_le c d ht]; exact h
  · exact (chipAdvance_ok ⟨h, ht⟩ (Nat.le_refl _)).inOrder

/-- A chip caught up to the end of a range and rendered. -/
def Chip.renderTo (c : Cfg) (d : Dev) (buf : List (Int × Int)) (b e : Nat) (x : Chip) : List (Int × Int) × Chip :=
  (chipAdvance c d (BitVec.ofNat 64 (sampleTick c e)) x).render c buf b e

/-- Split invariance of a chip (R306, R312). -/
theorem Chip.renderTo_append (c : Cfg) (d : Dev) {x : Chip} (hx : InOrder x.events x.tick) {b m e : Nat} (hbm : b ≤ m)
    (hme : m ≤ e) {now : Tick} (he : sampleTick c e ≤ now.toNat) {buf : List (Int × Int)} (hbuf : buf.length = m - b)
    (buf' : List (Int × Int)) :
    Chip.renderTo c d (buf ++ buf') b e x =
      ((Chip.renderTo c d buf b m x).1 ++ (Chip.renderTo c d buf' m e (Chip.renderTo c d buf b m x).2).1,
        (Chip.renderTo c d buf' m e (Chip.renderTo c d buf b m x).2).2) := by
  have hτ := sampleTick_mono c hme
  have hm := toNat_sampleTick (hτ.trans he)
  have habsorb := chipAdvance_absorb c d ((hm.trans_le hτ).trans_eq (toNat_sampleTick he).symm) x
  obtain ⟨hout, hgen⟩ := Chip.render_advance c d buf b (BitVec.ofNat 64 (sampleTick c e))
    (hm.symm.le.trans (le_chipAdvance_tick c d (BitVec.ofNat 64 (sampleTick c m)) x))
  rw [habsorb] at hout hgen
  simp only [Chip.renderTo, ← hout, hgen]
  exact Chip.render_append c (chipAdvance_inOrder c d _ hx) hbm hme hbuf buf'

/-! ### The operation (R305 to R307) -/

/-- RENDER is in order exactly when its end has come and it overlaps nothing rendered. -/
theorem State.canRender_iff {c : Cfg} {g : Gen} {b e : Nat} {s : State} :
    s.canRender c g b e = true ↔ sampleTick c e ≤ s.now.toNat ∧ s.renderedTo g ≤ b := by
  rw [State.canRender, Bool.and_eq_true, decide_eq_true_eq, decide_eq_true_eq]

/-- The range of RENDER (R305). -/
theorem renderRange_iff {buf : List (Int × Int)} {b e : Nat} :
    renderRange buf b e = true ↔ b ≤ e ∧ e - b ≤ buf.length := by
  rw [renderRange, Bool.and_eq_true, decide_eq_true_eq, decide_eq_true_eq]

/-- A RENDER in order answers with its buffer. -/
theorem renderOp_of_canRender {c : Cfg} {g : Gen} {b e : Nat} {s : State} (h : s.canRender c g b e = true)
    (buf : List (Int × Int)) :
    renderOp c g buf b e s =
      .next ((rendered c g buf b e s).setResult
        (.samples (renderBuffer c buf b e s.draws (s.renderGen c g buf b e).1))) :=
  if_pos h

/-- A RENDER in range and in order answers with the samples it made. -/
theorem renderOp_of_renderRange {c : Cfg} {g : Gen} {b e : Nat} {s : State} {buf : List (Int × Int)}
    (hlate : sampleTick c e ≤ s.now.toNat) (hto : s.renderedTo g ≤ b) (hbe : b ≤ e) (hbuf : e - b ≤ buf.length) :
    renderOp c g buf b e s =
      .next ((rendered c g buf b e s).setResult (.samples (s.renderGen c g buf b e).1)) := by
  rw [renderOp_of_canRender (State.canRender_iff.2 ⟨hlate, hto⟩), renderBuffer,
    if_pos (renderRange_iff.2 ⟨hbe, hbuf⟩)]

/-- A RENDER changes no tick counter. -/
theorem rendered_now (c : Cfg) (g : Gen) (buf : List (Int × Int)) (b e : Nat) (s : State) :
    (rendered c g buf b e s).now = s.now := by
  cases g <;> rfl

/-- After a RENDER its generator is rendered to its end. -/
theorem rendered_renderedTo (c : Cfg) (g : Gen) (buf : List (Int × Int)) (b e : Nat) (s : State) :
    (rendered c g buf b e s).renderedTo g = e := by
  cases g <;> rfl

/-- RENDER of the built-in generator. -/
theorem State.renderGen_builtin (c : Cfg) (buf : List (Int × Int)) (b e : Nat) (s : State) :
    s.renderGen c .builtin buf b e =
      ((Sound.renderTo c buf b e (s.sound, s.intFF)).1,
        (s.setSound (Sound.renderTo c buf b e (s.sound, s.intFF)).2.1).setIntFF
          (Sound.renderTo c buf b e (s.sound, s.intFF)).2.2) := rfl

/-- RENDER of the six-channel chip. -/
theorem State.renderGen_xsnd6 (c : Cfg) (buf : List (Int × Int)) (b e : Nat) (s : State) :
    s.renderGen c .xsnd6 buf b e =
      ((Chip.renderTo c .xsnd6 buf b e s.xsnd6).1, s.setXsnd6 (Chip.renderTo c .xsnd6 buf b e s.xsnd6).2) := rfl

/-- RENDER of the four-channel chip. -/
theorem State.renderGen_xsnd4 (c : Cfg) (buf : List (Int × Int)) (b e : Nat) (s : State) :
    s.renderGen c .xsnd4 buf b e =
      ((Chip.renderTo c .xsnd4 buf b e s.xsnd4).1, s.setXsnd4 (Chip.renderTo c .xsnd4 buf b e s.xsnd4).2) := rfl

/-- The generators and the flip-flop. -/
def State.generators (s : State) : Sound × Bool × Chip × Chip := (s.sound, s.intFF, s.xsnd6, s.xsnd4)

/-- Split invariance of the generator a RENDER names: the samples, and the generators left. -/
theorem State.renderGen_append (c : Cfg) (g : Gen) {s : State} (hs : s.EventsOk) {b m e : Nat} (hbm : b ≤ m) (hme : m ≤ e)
    (he : sampleTick c e ≤ s.now.toNat) {buf : List (Int × Int)} (hbuf : buf.length = m - b) (buf' : List (Int × Int))
    (a : Answer) :
    let t := (rendered c g buf b m s).setResult a
    (s.renderGen c g (buf ++ buf') b e).1 = (s.renderGen c g buf b m).1 ++ (t.renderGen c g buf' m e).1 ∧
      (rendered c g (buf ++ buf') b e s).generators = (rendered c g buf' m e t).generators := by
  obtain ⟨hsound, h6, h4⟩ := hs
  cases g with
  | builtin =>
    have h := Sound.renderTo_append c (x := (s.sound, s.intFF)) hsound hbm hme he hbuf buf'
    simp [rendered, State.renderGen_builtin, State.generators, h]
  | xsnd6 =>
    have h := Chip.renderTo_append c .xsnd6 h6 hbm hme he hbuf buf'
    simp [rendered, State.renderGen_xsnd6, State.generators, h]
  | xsnd4 =>
    have h := Chip.renderTo_append c .xsnd4 h4 hbm hme he hbuf buf'
    simp [rendered, State.renderGen_xsnd4, State.generators, h]

/-- Settles O44: each of the three calls is in range and in order, and the generator gives in two what it gives at once. -/
theorem renderSplit : Obligations.RenderSplit := by
  intro c g buf1 buf2 b m e s hs hbm hme hbuf1 hbuf2 he hto
  have hm : sampleTick c m ≤ s.now.toNat := (sampleTick_mono c hme).trans he
  have h1 := renderOp_of_renderRange hm hto hbm hbuf1.ge
  have h2 := renderOp_of_renderRange (s := (rendered c g buf1 b m s).setResult (.samples (s.renderGen c g buf1 b m).1))
    (he.trans_eq (congrArg BitVec.toNat (rendered_now c g buf1 b m s).symm))
    (rendered_renderedTo c g buf1 b m s).le hme hbuf2.ge
  have hu := renderOp_of_renderRange (buf := buf1 ++ buf2) he hto (hbm.trans hme)
    (by rw [List.length_append]; omega)
  obtain ⟨hout, hgen⟩ := State.renderGen_append c g hs hbm hme he hbuf1 buf2 (.samples (s.renderGen c g buf1 b m).1)
  simp only [State.generators, Prod.mk.injEq] at hgen
  obtain ⟨hsound, hff, h6, h4⟩ := hgen
  exact ⟨_, _, _, _, _, h1, h2, hu, rfl, rfl, congrArg Answer.samples hout, hsound.symm, hff.symm, h6.symm, h4.symm⟩

/-- Settles O43: a RENDER out of order is refused; one in order answers with the mix of its range, or with a free value. -/
theorem renderAccumulates : Obligations.RenderAccumulates := by
  refine fun g buf b e s => ⟨fun h => if_neg (mt State.canRender_iff.1 h), fun he hto => ?_⟩
  intro τ u x y z later kept level
  refine ⟨renderBuffer Config.cfg buf b e s.draws (s.renderGen Config.cfg g buf b e).1,
    if renderRange buf b e then s.draws else s.draws + 1, ?_, ?_⟩
  · refine (renderOp_of_canRender (State.canRender_iff.2 ⟨he, hto⟩) buf).trans ?_
    cases g <;> rfl
  have hmix : (s.renderGen Config.cfg g buf b e).1 =
      mixSamples (fun n => level (sampleTick Config.cfg n)) (e - b) b buf := by
    cases g <;> rfl
  by_cases hr : b ≤ e ∧ e - b ≤ buf.length
  · have hrange := renderRange_iff.2 hr
    rw [if_pos hr, renderBuffer, if_pos hrange, if_pos hrange, hmix]
    refine ⟨rfl, mixSamples_length _ _ _ _, fun j p hp => ?_⟩
    have hj : j < e - b ↔ b + j < e := by omega
    rw [getElem?_mixSamples, hp, Option.map_some]
    simp only [hj]
    rfl
  · have hrange := mt renderRange_iff.1 hr
    rw [if_neg hr, renderBuffer, if_neg hrange, if_neg hrange]
    exact ⟨rfl, rfl⟩

end Sys2Proof.Machine
end

section
/-! PROOF. The FDC's registers and what a command byte does with and without an operation in progress (45_fdc.md R332 to
R349, R355, R362, R365, R372, R380). -/

namespace Sys2Proof.Machine

/-! ### Registers (R333 to R336, R343) -/

/-- A track write is one of four operations. -/
theorem Fdc.writingTrack_iff {f : Fdc} :
    f.writingTrack = true ↔
      f.fop ∈ [.trackWriteWaitForIndex, .trackWriteGap, .trackWriteIdAddr, .trackWriteData] := by
  simp [Fdc.writingTrack, or_assoc]

/-- A data write takes DRQ in a track write only (R336). -/
theorem fdcDataWrite_eq (v : Byte) (f : Fdc) :
    fdcDataWrite v f =
      { f with
        fdr := v
        drq :=
          if f.fop ∈ [.trackWriteWaitForIndex, .trackWriteGap, .trackWriteIdAddr, .trackWriteData] then false
          else f.drq } := by
  simp only [fdcDataWrite, ← Fdc.writingTrack_iff]
  cases f.writingTrack <;> simp

/-- Settles O45: each row is its register's rule; the four track-write operations are where a data write takes DRQ. -/
theorem fdcRegisters : Obligations.FdcRegisters := by
  refine fun v s => ⟨rfl, rfl, rfl, rfl, ?_, rfl, rfl⟩
  rw [← fdcDataWrite_eq]
  rfl

/-! ### A command byte (R332, R338) -/

/-- A command whose rule answers f leaves f, when no operation is in progress or it is Force-Interrupt. -/
theorem runCommand_of_some (c : Cfg) {k : FdcCommand} {s : State} {f : Fdc}
    (h : s.fdc.fop = .none ∨ isForceint k = true) (hf : commandRule c s.now k (commandTaken k s.fdc) = some f) :
    runCommand c k s = s.setFdc f := by
  obtain ⟨hb, hk, -⟩ | ⟨hr, -⟩ | ⟨g, hg, hs⟩ := runCommand_cases c k s
  · exact absurd h (not_or.2 ⟨Fdc.busy_iff.1 hb, Bool.eq_false_iff.1 hk⟩)
  · cases hf.symm.trans hr
  · cases hf.symm.trans hg
    exact hs

/-- A command without a rule's result sets the mark and changes nothing else (log 4). -/
theorem runCommand_of_none (c : Cfg) {k : FdcCommand} {s : State} (h : s.fdc.fop = .none)
    (hf : commandRule c s.now k (commandTaken k s.fdc) = none) : runCommand c k s = s.refuse := by
  obtain ⟨hb, -, -⟩ | ⟨-, hs⟩ | ⟨g, hg, -⟩ := runCommand_cases c k s
  · exact absurd h (Fdc.busy_iff.1 hb)
  · exact hs
  · cases hf.symm.trans hg

/-- The row of a command whose rule answers. -/
theorem exec_command_of_some {k : FdcCommand} {s : State} {f : Fdc} (h : s.fdc.fop = .none ∨ isForceint k = true)
    (hf : commandRule Config.cfg s.now k (commandTaken k s.fdc) = some f) :
    exec k.toInstr s = .next ((s.setFdc f).setResult .none) := by
  rw [exec_toInstr, runCommand_of_some _ h hf]

/-- The row of a refused command. -/
theorem exec_command_of_none {k : FdcCommand} {s : State} (h : s.fdc.fop = .none)
    (hf : commandRule Config.cfg s.now k (commandTaken k s.fdc) = none) :
    exec k.toInstr s = .next (s.refuse.setResult .none) := by
  rw [exec_toInstr, runCommand_of_none _ h hf]

/-- Only Force-Interrupt runs while an operation is in progress. -/
theorem runCommand_of_busy (c : Cfg) {k : FdcCommand} {s : State} (h : s.fdc.fop ≠ .none) (hk : isForceint k = false) :
    runCommand c k s = s := by
  simp [runCommand_eq, fdcRun, fdcCommand, Fdc.busy_iff.2 h, hk, State.setFdc]

/-- The bytes of Force-Interrupt are those with the high digit 0xD (30_encoding.md R146). -/
theorem isForceint_fdcCommandOf :
    ∀ v : Byte, isForceint (fdcCommandOf v) = true → v.extractLsb' 4 4 = 0b1101#4 := by decide +kernel

/-- Settles O47: the byte's command is not Force-Interrupt, so a busy FDC drops it. -/
theorem fdcBusyIgnores : Obligations.FdcBusyIgnores := by
  intro v s hs hv
  have hrun : runCommand Config.cfg (fdcCommandOf v) s = s :=
    runCommand_of_busy _ hs (Bool.eq_false_iff.2 (mt (isForceint_fdcCommandOf v) hv))
  exact ⟨congrArg done hrun, by rw [exec_toInstr, hrun]⟩

/-! ### Type I (R344 to R349) -/

/-- The common start completes at once in the fast mode or with no step to make, and else leaves a seek (R344). -/
theorem typeIStart_eq (c : Cfg) (now : Tick) (h : Bool) (r : BitVec 2) (n : Int) (t' : Byte) (f : Fdc) :
    typeIStart c now h r n t' f =
      if c.fdc.fast = true ∨ n.natAbs * c.stepTicks r = 0 then
        seekComplete n t' { f with fmode := .typeI, headLoad := h, rnf := false }
      else
        { f with
          fmode := .typeI, headLoad := h, rnf := false, fop := .seek, fstart := now
          fdelay := BitVec.ofNat 64 (n.natAbs * c.stepTicks r), fpending := (n, t') } := by
  simp only [typeIStart, Bool.or_eq_true, decide_eq_true_eq]

/-- Settles O48: no operation is in progress, so each command's rule gives its count and track value to the start. -/
theorem fdcSeekFamilyStarts : Obligations.FdcSeekFamilyStarts := by
  intro u h v r s hs start
  have hstart {k : FdcCommand} {f : Fdc} {n : Int} {t' : Byte}
      (hk : commandRule Config.cfg s.now k (commandTaken k s.fdc) =
        some (typeIStart Config.cfg s.now h r n t' { f with fcmd := k.byte, intrq := false, fopDrive := s.fdc.fcur })) :
      exec k.toInstr s = .next (start k n t' f) := by
    rw [exec_command_of_some (.inl hs) hk, typeIStart_eq]
  refine ⟨?_, hstart (k := .seek h v r) (f := { s.fdc with ftarget := s.fdc.fdr }) rfl, ?_,
    hstart (k := .stepin u h v r) (f := { s.fdc with fstepDir := .inward }) rfl,
    hstart (k := .stepout u h v r) (f := { s.fdc with fstepDir := .outward }) rfl⟩
  · rintro _ rfl
    exact hstart (k := .restore h v r) (f := s.fdc) rfl
  · cases hdir : s.fdc.fstepDir <;>
      exact hstart (k := .step u h v r) (f := s.fdc)
        (congrArg (fun dir => some (stepStart Config.cfg s.now u h r dir (commandTaken _ s.fdc))) hdir)

/-! ### Types II to IV (R355, R362, R365, R372, R380) -/

/-- A sector read finds its sector on a ready drive's track (R355). -/
theorem fdcReadsec_found (now : Tick) {f : Fdc} {k : Fin 4} {d : Drive} {i : Image} (hk : f.fcur = some k)
    (hd : f.drive.get k = some d) (hi : d.image = some i)
    (h : f.ftr.toNat = d.logical ∧ 1 ≤ f.fsr.toNat ∧ f.fsr.toNat ≤ d.geom.sectorsPerTrack) :
    fdcReadsec now false f =
      some
        { f with
          fmode := .typeII, rnf := false, lostData := false, drq := false
          drive := f.drive.set k.val (some { d with sector := f.fsr.toNat })
          fbuf := readBlock d.geom i (blockNumber d.geom d.logical f.fside.val f.fsr.toNat)
          fidx := 0, fstart := now, fop := .sectorRead } := by
  have hc : f.current = some d := Fdc.current_eq_some_iff.2 ⟨k, hk, hd⟩
  simp [fdcReadsec, hk, hc, hi, h, Fdc.setDrive]

/-- Without a ready drive that has the sector, a sector read ends NOTFOUND (R355). -/
theorem fdcReadsec_notFound (now : Tick) {f : Fdc}
    (h : ∀ (k : Fin 4) (d : Drive) (i : Image), f.fcur = some k → f.drive.get k = some d → d.image = some i →
      ¬(f.ftr.toNat = d.logical ∧ 1 ≤ f.fsr.toNat ∧ f.fsr.toNat ≤ d.geom.sectorsPerTrack)) :
    fdcReadsec now false f =
      some (notFound { f with fmode := .typeII, rnf := false, lostData := false, drq := false }) := by
  simp only [fdcReadsec, Bool.false_eq_true, if_false]
  split
  case h_1 k d i hk hc hi =>
    obtain ⟨j, hj, hd⟩ := Fdc.current_eq_some_iff.1 hc
    rw [hc] at hi
    exact if_neg (h j d i hj hd hi)
  case h_2 => rfl

/-- Settles O51: a multiple-sector read has no rule; a single one finds its sector or does not. -/
theorem fdcReadsec_holds : Obligations.FdcReadsec := by
  intro sv e x y s hs taken
  refine ⟨exec_command_of_none (k := .readsec true sv e x y) hs rfl, fun h => ?_, fun k d i hk hd hi htr h1 hspt => ?_⟩
  · exact exec_command_of_some (k := .readsec false sv e x y) (.inl hs) (fdcReadsec_notFound s.now h)
  · exact exec_command_of_some (k := .readsec false sv e x y) (.inl hs)
      (fdcReadsec_found s.now (f := commandTaken _ s.fdc) hk hd hi ⟨htr, h1, hspt⟩)

/-- The FDC is ready when its current drive holds an image (10_state.md R73). -/
theorem Fdc.notReady_eq_false_iff {f : Fdc} :
    f.notReady = false ↔
      ∃ (k : Fin 4) (d : Drive) (i : Image), f.fcur = some k ∧ f.drive.get k = some d ∧ d.image = some i := by
  rw [← Bool.not_eq_true, Fdc.notReady_iff]
  simp only [Fdc.current_eq_some_iff, not_forall, Option.ne_none_iff_exists', exists_prop]
  exact ⟨fun ⟨d, ⟨k, hk, hd⟩, i, hi⟩ => ⟨k, d, i, hk, hd, hi⟩, fun ⟨k, d, i, hk, hd, hi⟩ => ⟨d, ⟨k, hk, hd⟩, i, hi⟩⟩

/-- FORCEINT ends any operation; INTRQ, which its byte cleared, rises only with i[3] (R380). -/
theorem fdcForceint_eq (i : BitVec 4) {f : Fdc} (h : f.intrq = false) :
    fdcForceint i f =
      some
        { f with
          fop := .none, drq := false, fidx := 0, fbuf := []
          fmode := if f.fop = .none then .typeI else f.fmode
          intrq := i.getLsbD 3 } := by
  simp only [fdcForceint, Fdc.busy, h, Bool.false_or, decide_eq_true_eq, ite_not]

/-- Settles O52: WRITESEC and READTRK have no rule, READADDR and WRITETRK look at the drive, and FORCEINT runs also
while busy. -/
theorem fdcOtherCommands : Obligations.FdcOtherCommands := by
  intro x3 x2 x1 x0 i s ready taken
  have hready (k : FdcCommand) : (commandTaken k s.fdc).notReady = false ↔ ready := Fdc.notReady_eq_false_iff
  refine ⟨fun hs m => ⟨?_, ?_⟩, fun hs hr => ⟨?_, ?_⟩, fun hs hr => ⟨?_, ?_⟩, ?_⟩
  · exact exec_command_of_none (k := .writesec m x3 x2 x1 x0) hs rfl
  · exact exec_command_of_none (k := .readtrk x3 x2 x1 x0) hs rfl
  · exact exec_command_of_some (k := .readaddr x3 x2 x1 x0) (.inl hs)
      (by simp only [commandRule, fdcReadaddr, (hready _).2 hr]; rfl)
  · exact exec_command_of_some (k := .writetrk x3 x2 x1 x0) (.inl hs)
      (by simp only [commandRule, fdcWritetrk, (hready _).2 hr]; rfl)
  · exact exec_command_of_some (k := .readaddr x3 x2 x1 x0) (.inl hs)
      (by simp only [commandRule, fdcReadaddr, Bool.of_not_eq_false (mt (hready _).1 hr)]; rfl)
  · exact exec_command_of_some (k := .writetrk x3 x2 x1 x0) (.inl hs)
      (by simp only [commandRule, fdcWritetrk, Bool.of_not_eq_false (mt (hready _).1 hr)]; rfl)
  · exact exec_command_of_some (k := .forceint i) (.inr rfl) (fdcForceint_eq i rfl)

end Sys2Proof.Machine
end

section
/-! PROOF. The FDC's reset handler in a BUSRESET (45_fdc.md R396, 41_portbus.md R192). -/

namespace Sys2Proof.Machine

/-- A handler that stands in some slot is in the chain that BUSRESET runs. -/
theorem mem_resets_of_at {t : Slots} {p : Byte} {e : Entry Resetter} (h : e ∈ (t.at p).resets) :
    e ∈ t.toList.flatMap PortSlot.resets :=
  List.mem_flatMap.2 ⟨t.at p, Vector.mem_toList_iff.2 (Vector.getElem_mem _), h⟩

/-- A reset handler reads no clock but the tick counter, which it leaves. -/
theorem runReset_now (c : Cfg) (h : Resetter) (s : State) : (runReset c h s).now = s.now := by
  rw [runReset_frame]

/-- The FDC's reset handler is the only one that touches the FDC. -/
theorem runReset_fdc (c : Cfg) (h : Resetter) (s : State) :
    (runReset c h s).fdc = if h = .fdc then fdcReset s.now s.fdc else s.fdc := by
  cases h with
  | dev d => simp only [runReset]; rw [devReset_frame]; rfl
  | mapper | fdc | ext n => rfl

/-- A chain with the FDC's reset handler in it resets the FDC; run more than once, the handler changes nothing more. -/
theorem resetChain_fdc (c : Cfg) {o : Owner} {l : List (Entry Resetter)} (h : ⟨o, .fdc⟩ ∈ l) (s : State) :
    (resetChain c l s).fdc = fdcReset s.now s.fdc := by
  obtain ⟨l, m, rfl⟩ := List.append_of_mem h
  have hbefore : (resetChain c l s).now = s.now ∧
      fdcReset s.now (resetChain c l s).fdc = fdcReset s.now s.fdc := by
    refine resetChain_keeps (P := fun u => u.now = s.now ∧ fdcReset s.now u.fdc = fdcReset s.now s.fdc) c l
      (fun e _ u ⟨hnow, hu⟩ => ⟨(runReset_now c _ u).trans hnow, ?_⟩) s ⟨rfl, rfl⟩
    rw [runReset_fdc, hnow]
    split <;> exact hu
  obtain ⟨hnow, hfdc⟩ := hbefore
  rw [resetChain_append]
  refine (resetChain_keeps (P := fun u => u.now = s.now ∧ u.fdc = fdcReset s.now s.fdc) c m
    (fun e _ u ⟨hnow, hu⟩ => ⟨(runReset_now c _ u).trans hnow, ?_⟩) _ ⟨(runReset_now c _ _).trans hnow, ?_⟩).2
  · rw [runReset_fdc, hnow, hu]
    split <;> rfl
  · rw [runReset_fdc, if_pos rfl, hnow, hfdc]

/-- Settles O32: the handler is in the chain that BUSRESET runs, whatever runs before and after it. -/
theorem fdcResetHandler : Obligations.FdcResetHandler :=
  fun s _ _ h => ⟨_, exec_busreset s, resetChain_fdc _ (mem_resets_of_at h) s⟩

end Sys2Proof.Machine
end

section
/-! PROOF. The end of a seek, and the seek law (45_fdc.md R350, R351, R397 (b)). -/

namespace Sys2Proof.Machine

/-! ### The operation's drive -/

/-- A change of the operation's drive. -/
theorem Fdc.overOperating_of_drive {f : Fdc} {k : Fin 4} {d : Drive} (hk : f.fopDrive = some k)
    (hd : f.drive.get k = some d) (g : Drive → Drive) : f.overOperating g = f.setDrive k (g d) := by
  have ho : f.operating = some d := Fdc.operating_eq_some_iff.2 ⟨k, hk, hd⟩
  simp only [Fdc.overOperating, hk, ho]

/-- Without a drive there is nothing to change. -/
theorem Fdc.overOperating_of_none {f : Fdc} (h : f.operating = none) (g : Drive → Drive) : f.overOperating g = f := by
  unfold Fdc.overOperating
  rw [h]
  split
  · contradiction
  · rfl

/-- The operation has no drive when the drive it names is not there. -/
theorem Fdc.operating_eq_none {f : Fdc} (h : ∀ k : Fin 4, f.fopDrive = some k → f.drive.get k = none) :
    f.operating = none :=
  Option.bind_eq_none_iff.2 h

/-- Settles O49: the step's clamp is the spec's, in the integers, where no tracks leave the head at 0. -/
theorem seekCompletes : Obligations.SeekCompletes := by
  refine fun n t' f => ⟨fun k d hk hd => ⟨(Drive.step n d).phys, ?_, ?_⟩, fun h => ?_⟩
  · simp only [Drive.step]
    omega
  · rw [seekComplete, Fdc.overOperating_of_drive hk hd]
    rfl
  · rw [seekComplete, Fdc.overOperating_of_none (Fdc.operating_eq_none h)]

/-! ### The callback of an FDC whose seek, if any, is over -/

/-- What PERIODIC(t) makes of an FDC that has no operation after the seek check (R351, R395). -/
def Fdc.polled (t : Tick) (f : Fdc) : Fdc := { seekPoll t f with flast := t }

/-- An FDC without an operation is left by the seek check. -/
theorem seekPoll_of_idle (t : Tick) {f : Fdc} (h : f.fop = .none) : seekPoll t f = f := by
  simp [seekPoll, h]

/-- After a callback the seek check finds nothing to do. -/
theorem seekPoll_polled {t : Tick} {f : Fdc} (h : (seekPoll t f).fop = .none) : seekPoll t (f.polled t) = f.polled t :=
  seekPoll_of_idle t (f := f.polled t) h

/-- A second callback at the same tick does nothing new. -/
theorem Fdc.polled_polled {t : Tick} {f : Fdc} (h : (seekPoll t f).fop = .none) :
    (f.polled t).polled t = f.polled t := by
  rw [Fdc.polled, seekPoll_polled h]
  rfl

/-- The callback of such an FDC. -/
theorem State.fdcCallback_of_polled (c : Cfg) {t : Tick} {s : State} (h : (seekPoll t s.fdc).fop = .none) :
    (s.fdcCallback c t).fdc = s.fdc.polled t := by
  simp only [State.fdcCallback, fdcPeriodic, State.setDraws_fdc, State.setFdc_fdc]
  rw [fdcEvents_idle _ _ _ _ _ h]
  rfl

/-- A peripheral's callback keeps what the backplane holds. -/
theorem periphPeriodic_card (c : Cfg) (t : Tick) (p : Option Periph) (s : State) :
    (periphPeriodic c t p s).card = s.card ∧ (periphPeriodic c t p s).cart = s.cart := by
  match p with
  | none | some .fdc => exact ⟨rfl, rfl⟩
  | some (.dev d) => simp only [periphPeriodic]; rw [devPeriodic_frame]; exact ⟨rfl, rfl⟩

/-- PERIODIC calls the slots in order and then the cartridge socket (46_backplane.md R410). -/
theorem periodicAll_eq_foldl (c : Cfg) (t : Tick) (s : State) :
    periodicAll c t s =
      [s.card.get 0, s.card.get 1, s.card.get 2, s.card.get 3, s.cart].foldl (fun u p => periphPeriodic c t p u) s := by
  simp only [periodicAll, periphPeriodic_card, List.foldl_cons, List.foldl_nil]

/-- Of the callbacks only the FDC's touches the FDC. -/
theorem periphPeriodic_fdc (c : Cfg) {t : Tick} (p : Option Periph) {s : State} (h : (seekPoll t s.fdc).fop = .none) :
    (periphPeriodic c t p s).fdc = if p = some .fdc then s.fdc.polled t else s.fdc := by
  match p with
  | none => rfl
  | some .fdc => exact State.fdcCallback_of_polled c h
  | some (.dev d) => simp only [periphPeriodic]; rw [devPeriodic_frame]; rfl

/-- Callbacks with the FDC's among them, once or more, poll an FDC whose seek is over. -/
theorem foldl_periphPeriodic_fdc (c : Cfg) {t : Tick} (l : List (Option Periph)) {s : State}
    (h : (seekPoll t s.fdc).fop = .none) :
    (l.foldl (fun u p => periphPeriodic c t p u) s).fdc = if some .fdc ∈ l then s.fdc.polled t else s.fdc := by
  induction l generalizing s with
  | nil => rfl
  | cons p l ih =>
    have hp := periphPeriodic_fdc c p h
    rw [List.foldl_cons]
    by_cases hf : p = some .fdc
    · rw [if_pos hf] at hp
      rw [ih (by rwa [hp, seekPoll_polled h]), hp, Fdc.polled_polled h, ite_self, if_pos (hf ▸ .head _)]
    · rw [if_neg hf] at hp
      rw [ih (by rwa [hp]), hp]
      simp [Ne.symm hf]

/-- PERIODIC at its tick, with an FDC card installed and no operation left after the seek check. -/
theorem periodicOp_fdc (c : Cfg) {t : Tick} {s : State} {j : Fin 4} (hj : s.card.get j = some .fdc)
    (hnow : s.now = t) (hlast : s.lastPeriodic.toNat ≤ t.toNat) (h : (seekPoll t s.fdc).fop = .none) :
    (periodicOp c t s).fdc = s.fdc.polled t := by
  have hin : s.periodicInOrder t = true := by simp [State.periodicInOrder, hnow, hlast]
  have hmem : some Periph.fdc ∈ [s.card.get 0, s.card.get 1, s.card.get 2, s.card.get 3, s.cart] := by
    rw [← hj]
    match j with
    | 0 | 1 | 2 | 3 => simp
  rw [periodicOp, if_pos hin, periodicAll_eq_foldl]
  exact (foldl_periphPeriodic_fdc c _ (s := (s.soundCatchUp c t).setLastPeriodic t) h).trans (if_pos hmem)

/-! ### The seek law (R397 (b)) -/

/-- A Type-I command whose delay has elapsed is complete after the seek check, on the drive it started on. -/
theorem seekPoll_typeIStart (c : Cfg) {now t : Tick} (h : Bool) {r : BitVec 2} {n : Int} (t' : Byte) (f : Fdc)
    (ht : now.toNat + n.natAbs * c.stepTicks r ≤ t.toNat) :
    ∃ g : Fdc, seekPoll t (typeIStart c now h r n t' f) = seekComplete n t' g ∧ g.fopDrive = f.fopDrive ∧
      g.fcur = f.fcur ∧ g.drive = f.drive := by
  rw [typeIStart_eq]
  split
  case isTrue => exact ⟨_, seekPoll_of_idle t rfl, rfl, rfl, rfl⟩
  case isFalse =>
    have hdue : (BitVec.ofNat 64 (n.natAbs * c.stepTicks r)).toNat ≤ (ticksSince t now).toNat := by
      simp only [ticksSince, BitVec.toNat_ofNat]
      bv_omega
    exact ⟨_, if_pos ⟨rfl, hdue⟩, rfl, rfl, rfl⟩

/-- The drive replaced is read back. -/
theorem Fdc.setDrive_get (f : Fdc) (k : Fin 4) (d : Drive) : (f.setDrive k d).drive.get k = some d := by
  simp [Fdc.setDrive, Vector.get_eq_getElem]

/-- A step inward from track 0 ends on its track or the last. -/
theorem Drive.step_of_track0 {d : Drive} (h : d.phys = 0) (n : Nat) :
    d.step n = { d with phys := min n (d.geom.tracks - 1) } := by
  simp only [Drive.step, h, Drive.mk.injEq, and_self, and_true]
  omega

/-- A SEEK from track 0, its delay elapsed and the seek check made: the step is that of the drive selected. -/
theorem seekPoll_seek (c : Cfg) (h v : Bool) {r : BitVec 2} {s : State} {t : Tick} (hs : s.fdc.fop = .none)
    (hftr : s.fdc.ftr = 0#8) (ht : s.now.toNat + s.fdc.fdr.toNat * c.stepTicks r ≤ t.toNat) :
    ∃ g : Fdc, seekPoll t (runCommand c (.seek h v r) s).fdc = seekComplete s.fdc.fdr.toNat s.fdc.fdr g ∧
      g.fopDrive = s.fdc.fcur ∧ g.fcur = s.fdc.fcur ∧ g.drive = s.fdc.drive := by
  have hn : (s.fdc.fdr.toNat : Int) - s.fdc.ftr.toNat = s.fdc.fdr.toNat := by simp [hftr]
  have hrun : runCommand c (.seek h v r) s = s.setFdc (typeIStart c s.now h r (s.fdc.fdr.toNat - s.fdc.ftr.toNat)
      s.fdc.fdr { commandTaken (.seek h v r) s.fdc with ftarget := s.fdc.fdr }) := runCommand_of_some c (.inl hs) rfl
  rw [hrun, hn, State.setFdc_fdc]
  exact seekPoll_typeIStart c h s.fdc.fdr _ ht

/-- Settles O50: the callback ends the seek, whose step from track 0 is clamped to the last track. -/
theorem seekLaw : Obligations.SeekLaw := by
  intro c h v r s k j d t hs hj hk hd hphys hftr htracks ht hlast s1 s2
  obtain ⟨g, hpoll, hop, hcur, hdrive⟩ := seekPoll_seek c h v hs hftr ht
  have hcard : s1.card.get j = some .fdc := by simp only [s1]; rw [runCommand_frame]; exact hj
  have hlast1 : s1.lastPeriodic.toNat ≤ t.toNat := by simp only [s1]; rw [runCommand_frame]; exact hlast
  have hfop : (seekPoll t s1.fdc).fop = .none := congrArg Fdc.fop hpoll
  have hseek : seekComplete s.fdc.fdr.toNat s.fdc.fdr g =
      { g.setDrive k (d.step s.fdc.fdr.toNat) with ftr := s.fdc.fdr, fop := .none, intrq := true } := by
    rw [seekComplete, Fdc.overOperating_of_drive (hop.trans hk) (hdrive ▸ hd)]
  have hfdc : s2.fdc =
      { g.setDrive k (d.step s.fdc.fdr.toNat) with ftr := s.fdc.fdr, fop := .none, intrq := true, flast := t } :=
    (periodicOp_fdc c hcard rfl hlast1 hfop).trans (congrArg (fun f : Fdc => { f with flast := t }) (hpoll.trans hseek))
  have hend : s2.fdc.drive.get k = some { d with phys := min s.fdc.fdr.toNat (d.geom.tracks - 1) } := by
    rw [hfdc, ← Drive.step_of_track0 hphys]
    exact g.setDrive_get k _
  have hcurrent := Fdc.current_eq_some_iff.2 ⟨k, by rw [hfdc]; exact hcur.trans hk, hend⟩
  refine ⟨by rw [hfdc], by rw [hfdc]; rfl, by rw [hfdc], hend, ?_⟩
  rw [Fdc.track0_iff hcurrent, ← BitVec.toNat_inj, BitVec.toNat_zero]
  dsimp only
  omega

end Sys2Proof.Machine
end

section
/-! PROOF. A block of a disk image read after a block is written, and the sector of a track write (30_encoding.md R160,
45_fdc.md R367, log 24). -/

namespace Sys2Proof.Machine

/-! ### Blocks of an image -/

/-- Bytes spliced into a list leave those outside them. -/
theorem getElem?_splice {l m : List Byte} {o i : Nat} (h : o + m.length ≤ l.length) (hi : i < o ∨ o + m.length ≤ i) :
    (l.take o ++ m ++ l.drop (o + m.length))[i]? = l[i]? := by
  have ho : (l.take o).length = o := List.length_take_of_le (by omega)
  obtain hi | hi := hi
  · rw [List.append_assoc, List.getElem?_append_left (by omega), List.getElem?_take_of_lt hi]
  · rw [List.getElem?_append_right (by rw [List.length_append]; omega), List.getElem?_drop, List.length_append, ho]
    congr 1
    omega

/-- A block write that the image does not hold is dropped (log 24). -/
theorem writeBlock_of_lt {g : Geom} {i : Image} {b : Nat} {l : List Byte}
    (h : i.bytes.length < b * g.sectorLen + l.length) :
    writeBlock g i b l = i :=
  if_neg (Nat.not_le_of_lt h)

/-- A block write that the image holds. -/
theorem writeBlock_of_le {g : Geom} {i : Image} {b : Nat} {l : List Byte}
    (h : b * g.sectorLen + l.length ≤ i.bytes.length) :
    writeBlock g i b l =
      { i with bytes := i.bytes.take (b * g.sectorLen) ++ l ++ i.bytes.drop (b * g.sectorLen + l.length) } :=
  if_pos h

/-- A block write leaves the write protection and the length of the image. -/
theorem writeBlock_wp_length (g : Geom) (i : Image) (b : Nat) (l : List Byte) :
    (writeBlock g i b l).wp = i.wp ∧ (writeBlock g i b l).bytes.length = i.bytes.length := by
  obtain h | h := Nat.lt_or_ge i.bytes.length (b * g.sectorLen + l.length)
  · rw [writeBlock_of_lt h]
    exact ⟨rfl, rfl⟩
  · rw [writeBlock_of_le h]
    refine ⟨rfl, ?_⟩
    simp only [List.length_append, List.length_take, List.length_drop]
    omega

/-- The block written is read back. -/
theorem readBlock_writeBlock_same {g : Geom} {i : Image} {b : Nat} {l : List Byte} (hl : l.length = g.sectorLen)
    (h : b * g.sectorLen + l.length ≤ i.bytes.length) : readBlock g (writeBlock g i b l) b = l := by
  have ho : (i.bytes.take (b * g.sectorLen)).length = b * g.sectorLen := List.length_take_of_le (by omega)
  rw [writeBlock_of_le h, readBlock, List.append_assoc, List.drop_left' ho, List.take_left' hl, if_pos hl]

/-- Every other block is read as before. -/
theorem readBlock_writeBlock_of_ne {g : Geom} {i : Image} {b b' : Nat} {l : List Byte} (hl : l.length = g.sectorLen)
    (h : b * g.sectorLen + l.length ≤ i.bytes.length) (hb : b' ≠ b) :
    readBlock g (writeBlock g i b l) b' = readBlock g i b' := by
  have hapart : b' * g.sectorLen + g.sectorLen ≤ b * g.sectorLen ∨
      b * g.sectorLen + g.sectorLen ≤ b' * g.sectorLen := by
    rw [← Nat.succ_mul, ← Nat.succ_mul]
    exact (Nat.lt_or_gt_of_ne hb).imp (Nat.mul_le_mul_right _) (Nat.mul_le_mul_right _)
  have hslice : ((writeBlock g i b l).bytes.drop (b' * g.sectorLen)).take g.sectorLen =
      (i.bytes.drop (b' * g.sectorLen)).take g.sectorLen := by
    refine List.ext_getElem? fun j => ?_
    rw [List.getElem?_take, List.getElem?_take]
    split
    · rw [List.getElem?_drop, List.getElem?_drop, writeBlock_of_le h, getElem?_splice h (by omega)]
    · rfl
  simp only [readBlock, hslice]

/-! ### The sector of a track write (R367) -/

/-- A drive replaced by itself. -/
theorem Fdc.setDrive_self {f : Fdc} {k : Fin 4} {d : Drive} (hd : f.drive.get k = some d) : f.setDrive k d = f := by
  rw [Fdc.setDrive, ← hd, Vector.get_eq_getElem]
  simp

/-- The sector goes to the image of the operation's drive when it fits the geometry. -/
theorem writeSector_eq {f : Fdc} {k : Fin 4} {d : Drive} {i : Image} (hk : f.fopDrive = some k)
    (hd : f.drive.get k = some d) (hi : d.image = some i) :
    writeSector f =
      if i.wp = false ∧ 1 ≤ (f.fwId.getD 2 0#8).toNat ∧ (f.fwId.getD 2 0#8).toNat ≤ d.geom.sectorsPerTrack ∧
          f.fwSector.length = d.geom.sectorLen then
        f.setDrive k
          { d with
            image := some (writeBlock d.geom i
              (blockNumber d.geom d.logical f.fside.val (f.fwId.getD 2 0#8).toNat) f.fwSector) }
      else f := by
  simp only [writeSector, Fdc.overOperating_of_drive hk hd, hi]
  split
  · rfl
  · exact Fdc.setDrive_self hd

/-- Settles O54: the block written is read back and the others stay; a block the image does not hold leaves it as
it was. -/
theorem writeSectorStores : Obligations.WriteSectorStores := by
  intro f k d i hk hd hi q block
  have hblock : blockNumber d.geom d.logical f.fside.val q = block := rfl
  rw [writeSector_eq hk hd hi, hblock]
  split
  case isTrue h =>
    obtain ⟨hwp, hq, hspt, hlen, hheld⟩ := h
    have hfits : block * d.geom.sectorLen + f.fwSector.length ≤ i.bytes.length := by
      rw [hlen, ← Nat.succ_mul]
      exact hheld
    obtain ⟨hwp', hlen'⟩ := writeBlock_wp_length d.geom i block f.fwSector
    exact ⟨_, if_pos ⟨hwp, hq, hspt, hlen⟩, hwp', hlen', readBlock_writeBlock_same hlen hfits,
      fun b hb => readBlock_writeBlock_of_ne hlen hfits hb⟩
  case isFalse h =>
    split
    case isTrue hc =>
      obtain ⟨hwp, hq, hspt, hlen⟩ := hc
      have hshort : i.bytes.length < block * d.geom.sectorLen + f.fwSector.length := by
        rw [hlen, ← Nat.succ_mul]
        exact Nat.lt_of_not_le fun hheld => h ⟨hwp, hq, hspt, hlen, hheld⟩
      rw [writeBlock_of_lt hshort, ← hi]
      exact Fdc.setDrive_self hd
    case isFalse => rfl

end Sys2Proof.Machine
end

section
/-! PROOF. What a periodic callback passes of a read and of a track write (45_fdc.md R357, R363, R366, R368, R395): the
events, run by recursion on a fuel, in closed form. -/

namespace Sys2Proof.Machine

/-! ### Ticks of edges and bytes -/

/-- The next edge lies after its tick. -/
theorem lt_nextEdge (c : Cfg) (n : Nat) : n < nextEdge c n := by
  rw [nextEdge, Nat.mul_comm]
  exact Nat.lt_mul_div_succ n (by simp only [Cfg.indexPeriod]; omega)

/-- Up to the next edge there is no other. -/
theorem nextEdge_of_lt (c : Cfg) {n m : Nat} (hn : n ≤ m) (hm : m < nextEdge c n) : nextEdge c m = nextEdge c n := by
  have hle : n / c.indexPeriod ≤ m / c.indexPeriod := Nat.div_le_div_right hn
  have hlt : m / c.indexPeriod < n / c.indexPeriod + 1 := Nat.div_lt_of_lt_mul (by rwa [Nat.mul_comm])
  rw [nextEdge, nextEdge, Nat.le_antisymm hle (Nat.le_of_lt_succ hlt)]

/-- The deadline of the next byte is past when fewer bytes went than the ticks since the start have room for. -/
theorem Fdc.deadline_le_iff (c : Cfg) {f : Fdc} {t : Nat} (h : f.fstart.toNat ≤ t) :
    f.deadline c ≤ t ↔ f.fidx < (t - f.fstart.toNat) / c.byteTicks := by
  rw [← Nat.succ_le_iff, Nat.le_div_iff_mul_le (show 0 < c.byteTicks from Nat.succ_pos _), Nat.le_sub_iff_add_le' h,
    Fdc.deadline]

/-- A deadline at or before t has room for the bytes before it. -/
theorem Fdc.fidx_lt_of_deadline_le (c : Cfg) {f : Fdc} {t : Nat} (h : f.deadline c ≤ t) : f.fidx < t := by
  have hb : f.fidx + 1 ≤ (f.fidx + 1) * c.byteTicks := Nat.le_mul_of_pos_right _ (Nat.succ_pos _)
  rw [Fdc.deadline] at h
  omega

/-! ### The operations that an event meets -/

/-- The operation waits for the index. -/
def Fdc.awaitsIndex (f : Fdc) : Prop := f.fop = .idReadWaitForIndex ∨ f.fop = .trackWriteWaitForIndex

/-- The operation is a read with its bytes running. -/
def Fdc.givesBytes (f : Fdc) : Prop := f.fop = .sectorRead ∨ f.fop = .idRead

/-- The operation is a track write with its bytes running. -/
def Fdc.takesBytes (f : Fdc) : Prop := f.fop = .trackWriteGap ∨ f.fop = .trackWriteIdAddr ∨ f.fop = .trackWriteData

theorem Fdc.givesBytes.not_awaitsIndex {f : Fdc} (h : f.givesBytes) : ¬f.awaitsIndex := by
  rintro (h' | h') <;> simp [Fdc.givesBytes, h'] at h

theorem Fdc.takesBytes.not_awaitsIndex {f : Fdc} (h : f.takesBytes) : ¬f.awaitsIndex := by
  rintro (h' | h') <;> simp [Fdc.takesBytes, h'] at h

theorem Fdc.takesBytes.not_givesBytes {f : Fdc} (h : f.takesBytes) : ¬f.givesBytes := by
  rintro (h' | h') <;> simp [Fdc.takesBytes, h'] at h

/-- A byte is to come in a read that is not complete, and always in a track write. -/
theorem Fdc.streaming_iff {f : Fdc} :
    f.streaming = true ↔ (f.givesBytes ∧ f.fidx < f.fbuf.length) ∨ f.takesBytes := by
  cases h : f.fop <;> simp [Fdc.streaming, Fdc.givesBytes, Fdc.takesBytes, h]

/-- A byte deadline of a read releases a byte. -/
theorem Fdc.givesBytes.fdcByte {f : Fdc} (h : f.givesBytes) (c : Cfg) : fdcByte c f = releaseByte c f := by
  obtain h | h := h <;> simp only [Machine.fdcByte, h]

/-- A byte deadline of a track write takes a byte. -/
theorem Fdc.takesBytes.fdcByte {f : Fdc} (h : f.takesBytes) (c : Cfg) : fdcByte c f = takeByte c f := by
  obtain h | h | h := h <;> simp only [Machine.fdcByte, h]

/-- A change of the operation's drive leaves the registers. -/
theorem Fdc.overOperating_frame (g : Drive → Drive) (f : Fdc) :
    f.overOperating g = { f with drive := (f.overOperating g).drive } := by
  unfold Fdc.overOperating
  split <;> rfl

/-- The end of a read leaves the count of bytes; any other operation does not end here. -/
theorem streamDone_cases (f : Fdc) :
    streamDone f = f ∨ (f.givesBytes ∧ (streamDone f).fop = .none ∧ (streamDone f).fidx = f.fidx) := by
  cases h : f.fop with
  | sectorRead =>
    simp only [streamDone, h]
    split
    · exact .inr ⟨.inl h, rfl, rfl⟩
    · exact .inl rfl
  | idRead =>
    simp only [streamDone, h]
    split
    · refine .inr ⟨.inr h, ?_⟩
      split
      · rw [Fdc.overOperating_frame]
        exact ⟨rfl, rfl⟩
      · exact ⟨rfl, rfl⟩
    · exact .inl rfl
  | _ => simp [streamDone, h]

/-- An operation that is no read does not end here. -/
theorem streamDone_of_not_givesBytes {f : Fdc} (h : ¬f.givesBytes) : streamDone f = f :=
  (streamDone_cases f).resolve_right fun ⟨hf, _⟩ => h hf

/-- A byte interpreted in a track write leaves it running, its start and the count of bytes. -/
theorem Fdc.takesBytes.interpretByte {f : Fdc} (h : f.takesBytes) (b : Byte) :
    (interpretByte b f).takesBytes ∧ (interpretByte b f).fstart = f.fstart ∧ (interpretByte b f).fidx = f.fidx := by
  obtain h | h | h := h
  · rw [interpretByte_gap b h]
    split
    · exact ⟨.inr (.inl rfl), rfl, rfl⟩
    · split
      · exact ⟨.inr (.inr rfl), rfl, rfl⟩
      · exact ⟨.inl h, rfl, rfl⟩
  · rw [interpretByte_idAddr b h]
    refine ⟨?_, rfl, rfl⟩
    dsimp only [Fdc.takesBytes]
    split
    · exact .inl rfl
    · exact .inr (.inl rfl)
  · rw [interpretByte_data b h]
    split
    · rw [writeSector, Fdc.overOperating_frame]
      exact ⟨.inl rfl, rfl, rfl⟩
    · exact ⟨.inr (.inr h), rfl, rfl⟩

/-- A byte taken counts, and leaves the track write running and its start. -/
theorem Fdc.takesBytes.takeByte {f : Fdc} (h : f.takesBytes) (c : Cfg) :
    (takeByte c f).takesBytes ∧ (takeByte c f).fstart = f.fstart ∧ (takeByte c f).fidx = f.fidx + 1 := by
  rw [takeByte_eq]
  exact Fdc.takesBytes.interpretByte (f := { f with drq := true, fidx := f.fidx + 1 }) h f.fdr

/-! ### The events do not read the tick of the previous callback -/

/-- The tick of the previous callback replaced. -/
def Fdc.setFlast (l : Tick) (f : Fdc) : Fdc := { f with flast := l }

@[simp] theorem Fdc.setFlast_fop (l : Tick) (f : Fdc) : (f.setFlast l).fop = f.fop := rfl
@[simp] theorem Fdc.setFlast_operating (l : Tick) (f : Fdc) : (f.setFlast l).operating = f.operating := rfl

theorem Fdc.overOperating_setFlast (g : Drive → Drive) (l : Tick) (f : Fdc) :
    (f.setFlast l).overOperating g = (f.overOperating g).setFlast l := by
  have hk : (f.setFlast l).fopDrive = f.fopDrive := rfl
  unfold Fdc.overOperating
  rw [hk, Fdc.setFlast_operating]
  split <;> rfl

theorem writeSector_setFlast (l : Tick) (f : Fdc) : writeSector (f.setFlast l) = (writeSector f).setFlast l :=
  Fdc.overOperating_setFlast _ l f

theorem interpretByte_setFlast (b : Byte) (l : Tick) (f : Fdc) :
    interpretByte b (f.setFlast l) = (interpretByte b f).setFlast l := by
  cases h : f.fop with
  | trackWriteGap =>
    rw [interpretByte_gap b h, interpretByte_gap b (f := f.setFlast l) h]
    simp only [apply_ite (Fdc.setFlast l)]
    rfl
  | trackWriteIdAddr =>
    rw [interpretByte_idAddr b h, interpretByte_idAddr b (f := f.setFlast l) h]
    rfl
  | trackWriteData =>
    rw [interpretByte_data b h, interpretByte_data b (f := f.setFlast l) h, apply_ite (Fdc.setFlast l)]
    exact if_congr Iff.rfl (congrArg (fun g : Fdc => { g with fwId := [], fop := .trackWriteGap })
      (writeSector_setFlast l { f with fwSector := f.fwSector ++ [b] })) rfl
  | _ => simp only [interpretByte, h, Fdc.setFlast]

theorem takeByte_setFlast (c : Cfg) (l : Tick) (f : Fdc) : takeByte c (f.setFlast l) = (takeByte c f).setFlast l :=
  interpretByte_setFlast f.fdr l
    { f with lostData := f.lostData || (f.drq && c.lostData), drq := true, fidx := f.fidx + 1 }

theorem streamDone_setFlast (l : Tick) (f : Fdc) : streamDone (f.setFlast l) = (streamDone f).setFlast l := by
  cases h : f.fop with
  | sectorRead =>
    simp only [streamDone, Fdc.setFlast_fop, h, apply_ite (Fdc.setFlast l)]
    rfl
  | idRead =>
    simp only [streamDone, Fdc.setFlast_fop, h, apply_ite (Fdc.setFlast l), Fdc.setFlast_operating,
      Fdc.overOperating_setFlast]
    cases f.operating <;> rfl
  | _ => simp only [streamDone, Fdc.setFlast_fop, h]

theorem fdcByte_setFlast (c : Cfg) (l : Tick) (f : Fdc) : fdcByte c (f.setFlast l) = (fdcByte c f).setFlast l := by
  unfold fdcByte
  rw [Fdc.setFlast_fop]
  split
  case h_1 | h_2 => rfl
  case h_3 | h_4 | h_5 => exact takeByte_setFlast c l f
  all_goals rfl

theorem fdcEdge_setFlast (c : Cfg) (t l : Tick) (f : Fdc) (n : Nat) :
    fdcEdge c t (f.setFlast l, n) = ((fdcEdge c t (f, n)).1.setFlast l, (fdcEdge c t (f, n)).2) := by
  unfold fdcEdge
  dsimp only
  rw [Fdc.setFlast_fop, Fdc.setFlast_operating]
  split
  case h_1 => split <;> rfl
  case h_3 | h_4 | h_5 =>
    rw [show (f.setFlast l).fstart = f.fstart from rfl]
    split <;> rfl
  all_goals rfl

/-! ### One event -/

/-- The next event is a byte deadline, or an index edge, or there is none up to tick t (R395). -/
theorem fdcEvents_succ (c : Cfg) (t k cur : Nat) (f : Fdc) (n : Nat) :
    fdcEvents c t (k + 1) cur (f, n) =
      if (streamDone f).streaming = true ∧ (streamDone f).deadline c ≤ t ∧
          (streamDone f).deadline c < nextEdge c cur then
        fdcEvents c t k (max cur ((streamDone f).deadline c)) (fdcByte c (streamDone f), n)
      else if nextEdge c cur ≤ t then
        fdcEvents c t k (nextEdge c cur) (fdcEdge c (BitVec.ofNat 64 (nextEdge c cur)) (streamDone f, n))
      else (streamDone f, n) := by
  simp only [fdcEvents, Bool.and_eq_true, decide_eq_true_eq, and_assoc]

/-- The events of an interval are the same whatever the tick of the previous callback is. -/
theorem fdcEvents_setFlast (c : Cfg) (t k cur : Nat) (l : Tick) (f : Fdc) (n : Nat) :
    fdcEvents c t k cur (f.setFlast l, n) =
      ((fdcEvents c t k cur (f, n)).1.setFlast l, (fdcEvents c t k cur (f, n)).2) := by
  induction k generalizing cur f n with
  | zero => simp only [fdcEvents, streamDone_setFlast]
  | succ k ih =>
    have hs : ((streamDone f).setFlast l).streaming = (streamDone f).streaming := rfl
    have hd : ((streamDone f).setFlast l).deadline c = (streamDone f).deadline c := rfl
    simp only [fdcEvents_succ, streamDone_setFlast, hs, hd, fdcByte_setFlast, fdcEdge_setFlast, ih]
    split
    · rfl
    · split <;> rfl

/-! ### The fuel (log 29) -/

/-- No more bytes than this fall due up to tick t. -/
def Fdc.bytesLeft (t : Nat) (f : Fdc) : Nat :=
  if f.fop = .idReadWaitForIndex ∨ f.fop = .trackWriteWaitForIndex then t else t - f.fidx

theorem Fdc.bytesLeft_le (t : Nat) (f : Fdc) : f.bytesLeft t ≤ t := by
  unfold Fdc.bytesLeft
  split <;> omega

theorem Fdc.bytesLeft_of_awaitsIndex (t : Nat) {f : Fdc} (h : f.awaitsIndex) : f.bytesLeft t = t := if_pos h

theorem Fdc.bytesLeft_of_not (t : Nat) {f : Fdc} (h : ¬f.awaitsIndex) : f.bytesLeft t = t - f.fidx := if_neg h

/-- The end of a read leaves as many. -/
theorem bytesLeft_streamDone (t : Nat) (f : Fdc) : (streamDone f).bytesLeft t = f.bytesLeft t := by
  obtain h | ⟨hf, hop, hidx⟩ := streamDone_cases f
  · rw [h]
  · rw [Fdc.bytesLeft_of_not t (f := streamDone f) (by simp [Fdc.awaitsIndex, hop]), hidx,
      Fdc.bytesLeft_of_not t hf.not_awaitsIndex]

/-- An operation that does not wait for an edge stays as it is there, or is a track write that ends. -/
theorem fdcEdge_cases (c : Cfg) (t : Tick) {f : Fdc} (n : Nat) (h : ¬f.awaitsIndex) :
    fdcEdge c t (f, n) = (f, n) ∨ fdcEdge c t (f, n) = ({ f with fop := .none, drq := false, intrq := true }, n) := by
  unfold fdcEdge
  dsimp only
  split
  case h_1 hf => exact absurd (.inl hf) h
  case h_2 hf => exact absurd (.inr hf) h
  case h_3 | h_4 | h_5 =>
    split
    · exact .inr rfl
    · exact .inl rfl
  all_goals exact .inl rfl

/-- An edge starts the count of an operation that waits for it, and leaves that of the others. -/
theorem bytesLeft_fdcEdge (c : Cfg) (t : Nat) (u : Tick) (f : Fdc) (n : Nat) :
    (fdcEdge c u (f, n)).1.bytesLeft t ≤ f.bytesLeft t := by
  by_cases h : f.awaitsIndex
  · rw [Fdc.bytesLeft_of_awaitsIndex t h]
    exact Fdc.bytesLeft_le t _
  · obtain he | he := fdcEdge_cases c u n h <;> rw [he]
    rw [Fdc.bytesLeft_of_not t h]
    exact (Fdc.bytesLeft_of_not t (by rintro (h | h) <;> cases h)).le

/-- A byte deadline that has passed leaves one byte less. -/
theorem bytesLeft_fdcByte (c : Cfg) {t : Nat} {f : Fdc} (hs : f.streaming = true) (hd : f.deadline c ≤ t) :
    (fdcByte c f).bytesLeft t < f.bytesLeft t := by
  have hlt := Fdc.fidx_lt_of_deadline_le c hd
  have hstep : ¬f.awaitsIndex ∧ ¬(fdcByte c f).awaitsIndex ∧ (fdcByte c f).fidx = f.fidx + 1 := by
    obtain ⟨h, -⟩ | h := Fdc.streaming_iff.1 hs
    · rw [h.fdcByte]
      exact ⟨h.not_awaitsIndex, h.not_awaitsIndex, rfl⟩
    · rw [h.fdcByte]
      obtain ⟨h', -, hidx⟩ := h.takeByte c
      exact ⟨h.not_awaitsIndex, h'.not_awaitsIndex, hidx⟩
  obtain ⟨h, h', hidx⟩ := hstep
  rw [Fdc.bytesLeft_of_not t h, Fdc.bytesLeft_of_not t h', hidx]
  omega

/-- A fuel of an event for every tick and every byte to come is enough: one more changes nothing. -/
theorem fdcEvents_succ_fuel (c : Cfg) {t k cur : Nat} {f : Fdc} {n : Nat} (h : t - cur + f.bytesLeft t ≤ k) :
    fdcEvents c t (k + 1) cur (f, n) = fdcEvents c t k cur (f, n) := by
  induction k generalizing cur f n with
  | zero =>
    have hedge := lt_nextEdge c cur
    rw [← bytesLeft_streamDone] at h
    rw [fdcEvents_succ, if_neg, if_neg (by omega)]
    · rfl
    · rintro ⟨hs, hd, -⟩
      have := bytesLeft_fdcByte c hs hd
      omega
  | succ k ih =>
    have hedge := lt_nextEdge c cur
    rw [← bytesLeft_streamDone] at h
    rw [fdcEvents_succ c t (k + 1) cur, fdcEvents_succ c t k cur]
    split
    case isTrue hb =>
      obtain ⟨hs, hd, -⟩ := hb
      have := bytesLeft_fdcByte c hs hd
      exact ih (by omega)
    case isFalse =>
      split
      · have := bytesLeft_fdcEdge c t (BitVec.ofNat 64 (nextEdge c cur)) (streamDone f) n
        generalize fdcEdge c (BitVec.ofNat 64 (nextEdge c cur)) (streamDone f, n) = x at this ⊢
        exact ih (f := x.1) (n := x.2) (by omega)
      · rfl

end Sys2Proof.Machine
end

section
/-! PROOF. The closed forms of a callback's bytes (45_fdc.md R357, R363, R366, R368, R395): a read releases its bytes
across index edges, a track write takes its bytes up to the next edge. -/

namespace Sys2Proof.Machine

/-! ### Reads (R357, R363) -/

/-- A read whose first m bytes are released. -/
def Fdc.released (m : Nat) (f : Fdc) : Fdc :=
  { f with
    fidx := m, fdr := if f.fidx < m then f.fbuf.getD (m - 1) 0#8 else f.fdr, drq := f.drq || decide (f.fidx < m) }

/-- With no byte more to release nothing changes. -/
theorem Fdc.released_fidx (f : Fdc) : f.released f.fidx = f := by
  simp [Fdc.released]

/-- The byte of one deadline is one of the bytes to release. -/
theorem Fdc.released_releaseByte (c : Cfg) {f : Fdc} {m : Nat} (h : f.fidx < m) :
    (releaseByte c f).released m = f.released m := by
  have hlast : ¬f.fidx + 1 < m → m - 1 = f.fidx := by omega
  by_cases hm : f.fidx + 1 < m
  · simp [Fdc.released, releaseByte, Cfg.lostData, h, hm]
  · simp [Fdc.released, releaseByte, Cfg.lostData, h, hm, hlast hm]

/-- A read that has bytes to come is not complete. -/
theorem streamDone_of_lt {f : Fdc} (hf : f.givesBytes) (h : f.fidx < f.fbuf.length) : streamDone f = f := by
  obtain hf | hf := hf <;> simp [streamDone, hf, h]

/-- A read whose bytes are all released is complete. -/
theorem streamDone_fop_of_le {f : Fdc} (hf : f.givesBytes) (h : f.fbuf.length ≤ f.fidx) :
    (streamDone f).fop = .none := by
  obtain hf | hf := hf
  · simp [streamDone, hf, h]
  · simp only [streamDone, hf, h, if_true]
    split <;> rfl

/-- The end of a sector read (R357). -/
theorem streamDone_sectorRead {f : Fdc} (h : f.fop = .sectorRead) :
    streamDone f = if f.fbuf.length ≤ f.fidx then { f with fop := .none, intrq := true } else f := by
  simp only [streamDone, h]

/-- The end of an ID read moves the drive's sector counter on (R363). -/
theorem streamDone_idRead {f : Fdc} {k : Fin 4} {d : Drive} (h : f.fop = .idRead) (hk : f.fopDrive = some k)
    (hd : f.drive.get k = some d) :
    streamDone f =
      if f.fbuf.length ≤ f.fidx then
        { f.setDrive k d.nextSector with fsr := BitVec.ofNat 8 d.logical, fop := .none, intrq := true }
      else f := by
  simp only [streamDone, h, Fdc.operating_eq_some_iff.2 ⟨k, hk, hd⟩, Fdc.overOperating_of_drive hk hd]

/-- After the end of a read there are no more events. -/
theorem fdcEvents_of_done (c : Cfg) (t k cur : Nat) {f : Fdc} (n : Nat) (h : (streamDone f).fop = .none) :
    fdcEvents c t k cur (f, n) = (streamDone f, n) := by
  have hd : streamDone (streamDone f) = streamDone f :=
    streamDone_of_not_givesBytes (by rintro (h' | h') <;> cases h.symm.trans h')
  rw [← fdcEvents_idle c t k cur (streamDone f, n) h]
  cases k with
  | zero => simp only [fdcEvents, hd]
  | succ k => rw [fdcEvents_succ, fdcEvents_succ, hd]

/-- The events of a read up to tick t, index edges among them, release the bytes due and end it after the last. -/
theorem fdcEvents_read (c : Cfg) {t k cur m : Nat} {f : Fdc} (n : Nat) (hf : f.givesBytes) (hstart : f.fstart.toNat ≤ t)
    (hm : m = min f.fbuf.length ((t - f.fstart.toNat) / c.byteTicks)) (hidx : f.fidx ≤ m)
    (hk : t - cur + (m - f.fidx) ≤ k) : fdcEvents c t k cur (f, n) = (streamDone (f.released m), n) := by
  induction k generalizing cur f with
  | zero =>
    obtain rfl : f.fidx = m := by omega
    rw [Fdc.released_fidx]
    rfl
  | succ k ih =>
    have hedge := lt_nextEdge c cur
    obtain hlt | hge := Nat.lt_or_ge f.fidx f.fbuf.length
    · have hdue := Fdc.deadline_le_iff c hstart
      rw [fdcEvents_succ, streamDone_of_lt hf hlt]
      split
      case isTrue hb =>
        obtain ⟨-, hb, -⟩ := hb
        have hnext : f.fidx + 1 ≤ m := by
          have := hdue.1 hb
          omega
        rw [hf.fdcByte, ih (f := releaseByte c f) hf hstart hm hnext (by simp only [releaseByte]; omega),
          Fdc.released_releaseByte c hnext]
      case isFalse hb =>
        split
        case isTrue he =>
          rw [fdcEdge_unseen c _ n (.inr (.inr hf.symm))]
          exact ih hf hstart hm hidx (by omega)
        case isFalse he =>
          obtain rfl : f.fidx = m := by
            have hs : f.streaming = true := Fdc.streaming_iff.2 (.inl ⟨hf, hlt⟩)
            have : ¬f.deadline c ≤ t := fun hd => hb ⟨hs, hd, by omega⟩
            rw [hdue] at this
            omega
          rw [Fdc.released_fidx, streamDone_of_lt hf hlt]
    · obtain rfl : f.fidx = m := by omega
      rw [Fdc.released_fidx]
      exact fdcEvents_of_done c t _ cur n (streamDone_fop_of_le hf hge)

/-! ### Track writes (R366, R368) -/

/-- The events of a track write up to tick t: the bytes before the next edge, and its end if that edge comes. -/
theorem fdcEvents_trackWrite (c : Cfg) {t b cur : Nat} (k : Nat) {f : Fdc} (n : Nat) (ht : t < 2 ^ 64)
    (hf : f.takesBytes) (hcur : cur ≤ t) (hstart : f.fstart.toNat ≤ cur)
    (hb : f.fidx + b = (min t (nextEdge c cur - 1) - f.fstart.toNat) / c.byteTicks) :
    fdcEvents c t (k + b + 1) cur (f, n) =
      if t < nextEdge c cur then (Nat.iterate (takeByte c) b f, n)
      else ({ Nat.iterate (takeByte c) b f with fop := .none, drq := false, intrq := true }, n) := by
  induction b generalizing cur f with
  | zero =>
    have hedge := lt_nextEdge c cur
    have hdue := Fdc.deadline_le_iff c (f := f) (t := min t (nextEdge c cur - 1)) (by omega)
    rw [fdcEvents_succ, streamDone_of_not_givesBytes hf.not_givesBytes, if_neg (by rw [← hb] at hdue; omega)]
    by_cases he : t < nextEdge c cur
    · rw [if_neg (by omega), if_pos he]
      rfl
    · have hnat : (BitVec.ofNat 64 (nextEdge c cur)).toNat = nextEdge c cur := by
        rw [BitVec.toNat_ofNat, Nat.mod_eq_of_lt (by omega)]
      rw [if_pos (by omega), if_neg he, fdcEdge_trackWriteEnd c n hf (by omega), fdcEvents_idle _ _ _ _ _ rfl]
      rfl
  | succ b ih =>
    have hedge := lt_nextEdge c cur
    have hdue : f.deadline c ≤ min t (nextEdge c cur - 1) := (Fdc.deadline_le_iff c (by omega)).2 (by omega)
    have hnext : nextEdge c (max cur (f.deadline c)) = nextEdge c cur := nextEdge_of_lt c (by omega) (by omega)
    obtain ⟨hf', hstart', hidx'⟩ := hf.takeByte c
    rw [fdcEvents_succ, streamDone_of_not_givesBytes hf.not_givesBytes,
      if_pos ⟨Fdc.streaming_iff.2 (.inr hf), by omega, by omega⟩, hf.fdcByte]
    refine (ih hf' (by omega) (by rw [hstart']; omega) ?_).trans (by rw [hnext]; rfl)
    rw [hnext, hstart', hidx', ← hb]
    omega

/-! ### The callback (R395) -/

/-- The callback of an operation that is no seek runs the events since the previous one. -/
theorem fdcPeriodic_eq (c : Cfg) (t : Tick) {f : Fdc} (n : Nat) (h : f.fop ≠ .seek) :
    fdcPeriodic c t (f, n) =
      ((fdcEvents c t.toNat (2 * t.toNat + 2) f.flast.toNat (f, n)).1.setFlast t,
        (fdcEvents c t.toNat (2 * t.toNat + 2) f.flast.toNat (f, n)).2) := by
  simp only [fdcPeriodic, seekPoll, h, false_and, if_false]
  rfl

/-- A read's callback releases the bytes due. -/
theorem fdcPeriodic_read (c : Cfg) {t : Tick} {f : Fdc} (n : Nat) (hf : f.givesBytes) (hlast : f.flast.toNat ≤ t.toNat)
    (hstart : f.fstart.toNat ≤ t.toNat)
    (hidx : f.fidx = min f.fbuf.length ((f.flast.toNat - f.fstart.toNat) / c.byteTicks)) :
    fdcPeriodic c t (f, n) =
      ((streamDone (f.released (min f.fbuf.length ((t.toNat - f.fstart.toNat) / c.byteTicks)))).setFlast t, n) := by
  have hmono : (f.flast.toNat - f.fstart.toNat) / c.byteTicks ≤ (t.toNat - f.fstart.toNat) / c.byteTicks :=
    Nat.div_le_div_right (by omega)
  have hle : (t.toNat - f.fstart.toNat) / c.byteTicks ≤ t.toNat - f.fstart.toNat := Nat.div_le_self _ _
  have hne : f.fop ≠ .seek := fun h => by simp [Fdc.givesBytes, h] at hf
  rw [fdcPeriodic_eq c t n hne, fdcEvents_read c n hf hstart rfl (by omega) (by omega)]

/-- A track write's callback takes the bytes before the next edge, and ends the track write at that edge. -/
theorem fdcPeriodic_trackWrite (c : Cfg) {t : Tick} {f : Fdc} (n : Nat) (hf : f.takesBytes)
    (hlast : f.flast.toNat ≤ t.toNat) (hstart : f.fstart.toNat ≤ f.flast.toNat)
    (hidx : f.fidx = (f.flast.toNat - f.fstart.toNat) / c.byteTicks) {b : Nat}
    (hb : b = (min t.toNat (nextEdge c f.flast.toNat - 1) - f.fstart.toNat) / c.byteTicks) :
    fdcPeriodic c t (f, n) =
      if t.toNat < nextEdge c f.flast.toNat then ((Nat.iterate (takeByte c) (b - f.fidx) f).setFlast t, n)
      else
        ({ Nat.iterate (takeByte c) (b - f.fidx) f with
            fop := .none, drq := false, intrq := true, flast := t }, n) := by
  have hedge := lt_nextEdge c f.flast.toNat
  have hmono : (f.flast.toNat - f.fstart.toNat) / c.byteTicks ≤ b := hb ▸ Nat.div_le_div_right (by omega)
  have hle : b ≤ min t.toNat (nextEdge c f.flast.toNat - 1) - f.fstart.toNat := hb ▸ Nat.div_le_self _ _
  have hne : f.fop ≠ .seek := fun h => by simp [Fdc.takesBytes, h] at hf
  have hfuel : 2 * t.toNat + 2 = (2 * t.toNat + 1 - (b - f.fidx)) + (b - f.fidx) + 1 := by omega
  rw [fdcPeriodic_eq c t n hne, hfuel, fdcEvents_trackWrite c _ n t.isLt hf hlast hstart (by omega)]
  split <;> rfl

/-- An edge starts no seek. -/
theorem Fdc.awaitsIndex.fdcEdge_fop {f : Fdc} (h : f.awaitsIndex) (c : Cfg) (u : Tick) (n : Nat) :
    (fdcEdge c u (f, n)).1.fop ≠ .seek := by
  obtain h | h := h <;> simp only [fdcEdge, h]
  · split
    · nofun
    · rw [h]
      nofun
  · nofun

/-- A callback that meets the edge waited for runs on from there. -/
theorem fdcPeriodic_awaitsIndex (c : Cfg) {t : Tick} {f : Fdc} (n : Nat) (hf : f.awaitsIndex) :
    let edge := nextEdge c f.flast.toNat
    let x := fdcEdge c (BitVec.ofNat 64 edge) (f, n)
    fdcPeriodic c t (f, n) =
      if t.toNat < edge then (f.setFlast t, n) else fdcPeriodic c t (x.1.setFlast (BitVec.ofNat 64 edge), x.2) := by
  intro edge x
  have hne : f.fop ≠ .seek := fun h => by simp [Fdc.awaitsIndex, h] at hf
  have hgives : ¬f.givesBytes := fun h => h.not_awaitsIndex hf
  have hidle : ¬f.streaming = true := fun hs =>
    (Fdc.streaming_iff.1 hs).elim (fun h => hgives h.1) fun h => h.not_awaitsIndex hf
  rw [fdcPeriodic_eq c t n hne, fdcEvents_succ, streamDone_of_not_givesBytes hgives, if_neg fun h => hidle h.1]
  by_cases hlt : t.toNat < edge
  · rw [if_neg (Nat.not_le_of_lt hlt), if_pos hlt]
  · have hedge : (x.1.setFlast (BitVec.ofNat 64 edge)).flast.toNat = edge := by
      have := t.isLt
      simp only [Fdc.setFlast, BitVec.toNat_ofNat]
      omega
    have hx : x.1.fop ≠ .seek := hf.fdcEdge_fop c _ n
    have hleft := x.1.bytesLeft_le t.toNat
    rw [if_pos (Nat.le_of_not_lt hlt), if_neg hlt, fdcPeriodic_eq c t x.2 (f := x.1.setFlast (.ofNat 64 edge)) hx,
      hedge, fdcEvents_setFlast, fdcEvents_succ_fuel c (k := 2 * t.toNat + 1) (by omega)]
    rfl

/-- Settles O53: a wait runs on from its edge; the bytes of a read and of a track write, counted up to tick t. -/
theorem byteStreaming : Obligations.ByteStreaming := by
  intro c t f n hlast edge
  refine ⟨fdcPeriodic_awaitsIndex c n, fun hstart hidx => ?_, fun h hstart hidx => ?_⟩
  · intro due g
    have hdue : f.fbuf.length ≤ due ↔ due = f.fbuf.length := by omega
    refine ⟨fun h => ?_, fun h k d hk hd => ?_⟩
    · rw [fdcPeriodic_read c n (.inl h) hlast hstart hidx, streamDone_sectorRead (f := f.released due) h,
        apply_ite (Fdc.setFlast t)]
      exact congrArg (·, n) (if_congr hdue rfl rfl)
    · rw [fdcPeriodic_read c n (.inr h) hlast hstart hidx, streamDone_idRead (f := f.released due) h hk hd,
        apply_ite (Fdc.setFlast t)]
      exact congrArg (·, n) (if_congr hdue rfl rfl)
  · intro after
    rw [fdcPeriodic_trackWrite c n h hlast hstart hidx rfl]
    by_cases hlt : t.toNat < edge
    · rw [if_pos hlt, if_pos hlt, Nat.min_eq_left (Nat.le_sub_one_of_lt hlt)]
      rfl
    · rw [if_neg hlt, if_neg hlt, Nat.min_eq_right (by omega)]

end Sys2Proof.Machine
end

section
/-! PROOF. A peripheral's calls on the bus, seen in one of the three handler lists of a port slot (41_portbus.md R193 to
R198, R202): registrations append to it, and deregistrations take from it what they name, in whatever order. -/

namespace Sys2Proof.Machine

/-! ### One list -/

/-- The last occurrence deleted is, from the other end, the first one (00_scope.md R10). -/
theorem map_removeLast {α : Type} [DecidableEq α] (h : α) (l : List (Entry α)) :
    (removeLast h l).map Entry.handler = ((l.map Entry.handler).reverse.erase h).reverse := by
  obtain hl | ⟨a, e, b, rfl, he, hb⟩ := last_cases (fun e : Entry α => decide (e.handler = h)) l
  · have hl' : ∀ e ∈ l, e.handler ≠ h := by simpa using hl
    rw [removeLast_absent h l hl', List.erase_of_not_mem (by simpa using hl'), List.reverse_reverse]
  · obtain rfl : e.handler = h := of_decide_eq_true he
    have hb' : ∀ x ∈ b, x.handler ≠ e.handler := by simpa using hb
    have hn : e.handler ∉ (b.map Entry.handler).reverse := by simpa using hb'
    rw [removeLast_last e a b hb', List.map_append, List.map_append, List.map_cons, List.reverse_append,
      List.reverse_cons, List.append_assoc, List.erase_append_right _ hn, List.singleton_append,
      List.erase_cons_head, ← List.reverse_append, List.reverse_reverse]

/-- Elements appended and taken away again. -/
theorem diff_append_self {α : Type} [DecidableEq α] (l m : List α) : (l ++ m).diff l = m := by
  induction l with
  | nil => rfl
  | cons x l ih => rw [List.cons_append, List.diff_cons, List.erase_cons_head, ih]

/-! ### The three lists -/

/-- One of the three handler lists of a slot: which call registers a handler in it, which handler a call registers on a
port, and what a call leaves of it. -/
structure HandlerList (α : Type) [DecidableEq α] where
  list : PortSlot → List (Entry α)
  call : Byte → α → RegOp
  added : Byte → RegOp → Option α
  added_eq_some_iff : ∀ n r h, added n r = some h ↔ r = call n h
  added_call : ∀ n m h, added n (call m h) = if m = n then some h else none
  list_register : ∀ o (t : Slots) n h, list ((t.apply o (call n h)).at n) = list (t.at n) ++ [⟨o, h⟩]
  list_deregister : ∀ o (t : Slots) n h, list ((t.apply o (undoReg (call n h))).at n) = removeHandler h (list (t.at n))
  list_other : ∀ o (t : Slots) n r, (∀ h, r ≠ call n h) → (∀ h, r ≠ undoReg (call n h)) →
    list ((t.apply o r).at n) = list (t.at n)
  deregisters_call : ∀ n h, deregisters (call n h) = false
  list_without : ∀ o q, list (PortSlot.without o q) = (list q).filter fun e => decide (e.owner ≠ o)
  stands_iff : ∀ (t : Slots) n h, t.stands (call n h) ↔ ∃ e ∈ list (t.at n), e.handler = h

/-- A call on another port, or about another list. -/
theorem list_apply_other {α : Type} {list : PortSlot → List (Entry α)} {o : Owner} {t : Slots} {n : Byte} {r : RegOp}
    (h : regPort r = n → list ((t.apply o r).at n) = list (t.at n)) : list ((t.apply o r).at n) = list (t.at n) := by
  by_cases hn : regPort r = n
  · exact h hn
  · rw [Slots.apply_other o t r (Ne.symm hn)]

/-- The readers (R193, R196). -/
def readerList : HandlerList Reader where
  list := PortSlot.readers
  call := .addReader
  added n r := match r with
    | .addReader p h => if p = n then some h else none
    | _ => none
  added_eq_some_iff n r h := by cases r <;> simp
  added_call _ _ _ := rfl
  list_register o t n h := congrArg PortSlot.readers (Slots.at_put ..)
  list_deregister o t n h := congrArg PortSlot.readers (Slots.at_put ..)
  list_other o t n r hadd hremove := list_apply_other fun hn => by
    cases r with
    | addReader p h => exact absurd (hn ▸ rfl) (hadd h)
    | removeReader p h => exact absurd (hn ▸ rfl) (hremove h)
    | _ => obtain rfl := hn; simp [Slots.apply, regPort]
  deregisters_call _ _ := rfl
  list_without _ _ := rfl
  stands_iff _ _ _ := Iff.rfl

/-- The writers (R194, R197). -/
def writerList : HandlerList Writer where
  list := PortSlot.writers
  call := .addWriter
  added n r := match r with
    | .addWriter p h => if p = n then some h else none
    | _ => none
  added_eq_some_iff n r h := by cases r <;> simp
  added_call _ _ _ := rfl
  list_register o t n h := congrArg PortSlot.writers (Slots.at_put ..)
  list_deregister o t n h := congrArg PortSlot.writers (Slots.at_put ..)
  list_other o t n r hadd hremove := list_apply_other fun hn => by
    cases r with
    | addWriter p h => exact absurd (hn ▸ rfl) (hadd h)
    | removeWriter p h => exact absurd (hn ▸ rfl) (hremove h)
    | _ => obtain rfl := hn; simp [Slots.apply, regPort]
  deregisters_call _ _ := rfl
  list_without _ _ := rfl
  stands_iff _ _ _ := Iff.rfl

/-- The reset handlers (R195, R198). -/
def resetterList : HandlerList Resetter where
  list := PortSlot.resets
  call := .addReset
  added n r := match r with
    | .addReset p h => if p = n then some h else none
    | _ => none
  added_eq_some_iff n r h := by cases r <;> simp
  added_call _ _ _ := rfl
  list_register o t n h := congrArg PortSlot.resets (Slots.at_put ..)
  list_deregister o t n h := congrArg PortSlot.resets (Slots.at_put ..)
  list_other o t n r hadd hremove := list_apply_other fun hn => by
    cases r with
    | addReset p h => exact absurd (hn ▸ rfl) (hadd h)
    | removeReset p h => exact absurd (hn ▸ rfl) (hremove h)
    | _ => obtain rfl := hn; simp [Slots.apply, regPort]
  deregisters_call _ _ := rfl
  list_without _ _ := rfl
  stands_iff _ _ _ := Iff.rfl

/-- A deregistration undone is the registration. -/
@[simp] theorem undoReg_undoReg (r : RegOp) : undoReg (undoReg r) = r := by cases r <;> rfl

/-- A call undone deregisters when the call registers. -/
theorem deregisters_undoReg (r : RegOp) : deregisters (undoReg r) = !deregisters r := by cases r <;> rfl

/-! ### Several calls -/

section Calls

variable {α : Type} [DecidableEq α] (v : HandlerList α)

/-- The handlers that calls register on a port. -/
def HandlerList.addedAll (n : Byte) (l : List RegOp) : List α := l.filterMap (v.added n)

/-- Each is counted as often as its call is made. -/
theorem HandlerList.count_addedAll (n : Byte) (l : List RegOp) (h : α) :
    (v.addedAll n l).count h = l.count (v.call n h) := by
  rw [HandlerList.addedAll, List.count_filterMap, List.count_eq_countP]
  refine List.countP_congr fun r _ => ?_
  rw [beq_iff_eq, beq_iff_eq, v.added_eq_some_iff]

/-- Registrations append their handlers. -/
theorem HandlerList.list_registerAll (o : Owner) (t : Slots) (n : Byte) {l : List RegOp}
    (hl : ∀ r ∈ l, deregisters r = false) :
    v.list ((t.applyAll o l).at n) = v.list (t.at n) ++ (v.addedAll n l).map (Entry.mk o) := by
  induction l generalizing t with
  | nil => simp [Slots.applyAll, HandlerList.addedAll]
  | cons r l ih =>
    have hstep : v.list ((t.apply o r).at n) = v.list (t.at n) ++ (v.added n r).toList.map (Entry.mk o) := by
      cases hr : v.added n r with
      | some h =>
        obtain rfl := (v.added_eq_some_iff n r h).1 hr
        exact v.list_register o t n h
      | none =>
        refine (v.list_other o t n r (fun h hh => ?_) fun h hh => ?_).trans (List.append_nil _).symm
        · rw [(v.added_eq_some_iff n r h).2 hh] at hr
          cases hr
        · have := hl r (.head _)
          rw [hh, deregisters_undoReg, v.deregisters_call] at this
          cases this
    refine (ih (t.apply o r) fun r hr => hl r (.tail _ hr)).trans ?_
    rw [hstep, List.append_assoc, ← List.map_append, HandlerList.addedAll, HandlerList.addedAll, List.filterMap_cons]
    cases v.added n r <;> rfl

/-- The same, whoever registers. -/
theorem HandlerList.handlers_registerAll (o : Owner) (t : Slots) (n : Byte) {l : List RegOp}
    (hl : ∀ r ∈ l, deregisters r = false) :
    (v.list ((t.applyAll o l).at n)).map Entry.handler =
      (v.list (t.at n)).map Entry.handler ++ v.addedAll n l := by
  rw [v.list_registerAll o t n hl, List.map_append, List.map_map]
  exact congrArg _ (List.map_id _)

/-- Deregistrations take from the list, from its end, the handlers they name. -/
theorem HandlerList.handlers_deregisterAll (o : Owner) (t : Slots) (n : Byte) {l : List RegOp}
    (hl : ∀ r ∈ l, deregisters r = true) :
    (v.list ((t.applyAll o l).at n)).map Entry.handler =
      (((v.list (t.at n)).map Entry.handler).reverse.diff (v.addedAll n (l.map undoReg))).reverse := by
  induction l generalizing t with
  | nil => simp [Slots.applyAll, HandlerList.addedAll]
  | cons r l ih =>
    have hstep : (v.list ((t.apply o r).at n)).map Entry.handler =
        (((v.list (t.at n)).map Entry.handler).reverse.diff (v.added n (undoReg r)).toList).reverse := by
      cases hr : v.added n (undoReg r) with
      | some h =>
        obtain rfl : r = undoReg (v.call n h) := by rw [← (v.added_eq_some_iff n _ h).1 hr, undoReg_undoReg]
        rw [v.list_deregister, removeHandler_handlers, map_removeLast, Option.toList_some, List.diff_cons,
          List.diff_nil]
      | none =>
        rw [v.list_other o t n r (fun h hh => ?_) fun h hh => ?_]
        · exact (List.reverse_reverse _).symm
        · have := hl r (.head _)
          rw [hh, v.deregisters_call] at this
          cases this
        · rw [(v.added_eq_some_iff n _ h).2 (by rw [hh, undoReg_undoReg])] at hr
          cases hr
    refine (ih (t.apply o r) fun r hr => hl r (.tail _ hr)).trans ?_
    rw [hstep, List.reverse_reverse, ← List.diff_append, HandlerList.addedAll, HandlerList.addedAll, List.map_cons,
      List.filterMap_cons]
    cases v.added n (undoReg r) <;> rfl

/-- Registrations and then the deregistrations that undo them, in whatever order, leave the handlers as they were. -/
theorem HandlerList.handlers_undone (o : Owner) (t : Slots) (n : Byte) {regs calls : List RegOp}
    (hregs : ∀ r ∈ regs, deregisters r = false) (hperm : calls.Perm (regs.map undoReg)) :
    (v.list (((t.applyAll o regs).applyAll o calls).at n)).map Entry.handler =
      (v.list (t.at n)).map Entry.handler := by
  have hcalls : ∀ r ∈ calls, deregisters r = true := by
    intro r hr
    obtain ⟨q, hq, rfl⟩ := List.mem_map.1 (hperm.mem_iff.1 hr)
    rw [deregisters_undoReg, hregs q hq]
    rfl
  have hundo : (calls.map undoReg).Perm regs := by
    simpa [Function.comp_def] using hperm.map undoReg
  have hadded : (v.addedAll n (calls.map undoReg)).Perm (v.addedAll n regs).reverse :=
    (hundo.filterMap _).trans (List.reverse_perm _).symm
  rw [v.handlers_deregisterAll o _ n hcalls, v.handlers_registerAll o t n hregs, List.reverse_append, hadded.diff_left,
    diff_append_self, List.reverse_reverse]

/-- Deregistrations that leave the handlers as they were before some registrations undo each handler as often as it was
registered, if one stood before, and not less often in any case. -/
theorem HandlerList.count_of_handlers_eq (o : Owner) (t : Slots) (n : Byte) {regs calls : List RegOp}
    (hregs : ∀ r ∈ regs, deregisters r = false) (hcalls : ∀ r ∈ calls, deregisters r = true)
    (heq : (v.list (((t.applyAll o regs).applyAll o calls).at n)).map Entry.handler =
      (v.list (t.at n)).map Entry.handler) (h : α) :
    regs.count (v.call n h) ≤ calls.count (undoReg (v.call n h)) ∧
      (t.stands (v.call n h) → calls.count (undoReg (v.call n h)) = regs.count (v.call n h)) := by
  have hundo : (calls.map undoReg).count (v.call n h) = calls.count (undoReg (v.call n h)) := by
    have := List.count_map_of_injective calls undoReg (Function.LeftInverse.injective undoReg_undoReg)
      (undoReg (v.call n h))
    rwa [undoReg_undoReg] at this
  have hcount := congrArg (List.count h) heq
  rw [v.handlers_deregisterAll o _ n hcalls, v.handlers_registerAll o t n hregs, List.count_reverse, List.count_diff,
    List.count_reverse, v.count_addedAll, hundo, List.count_append, v.count_addedAll] at hcount
  refine ⟨by omega, fun hs => ?_⟩
  have hpos : 0 < ((v.list (t.at n)).map Entry.handler).count h :=
    List.count_pos_iff.2 (List.mem_map.2 ((v.stands_iff t n h).1 hs))
  omega

end Calls

/-! ### All slots -/

/-- All slots hold the same handlers when each list of each slot does. -/
theorem Slots.sameHandlers_iff {t u : Slots} :
    t.sameHandlers u = true ↔ ∀ n : Byte,
      (readerList.list (t.at n)).map Entry.handler = (readerList.list (u.at n)).map Entry.handler ∧
      (writerList.list (t.at n)).map Entry.handler = (writerList.list (u.at n)).map Entry.handler ∧
      (resetterList.list (t.at n)).map Entry.handler = (resetterList.list (u.at n)).map Entry.handler := by
  rw [Slots.sameHandlers, Slots.toList_eq_map, Slots.toList_eq_map, List.zip_map']
  simp only [List.all_map, List.all_eq_true, List.mem_finRange, true_implies, Function.comp_apply,
    PortSlot.sameHandlers, Bool.and_eq_true, decide_eq_true_eq, and_assoc]
  exact ⟨fun h n => h n.toFin, fun h n => h (BitVec.ofFin n)⟩

@[simp] theorem Slots.sameHandlers_self (t : Slots) : t.sameHandlers t = true :=
  Slots.sameHandlers_iff.2 fun _ => ⟨rfl, rfl, rfl⟩

/-- Calls that register elsewhere leave a slot. -/
theorem Slots.applyAll_other (o : Owner) (t : Slots) {l : List RegOp} {n : Byte} (h : ∀ r ∈ l, n ≠ regPort r) :
    (t.applyAll o l).at n = t.at n := by
  induction l generalizing t with
  | nil => rfl
  | cons r l ih => exact (ih (t.apply o r) fun q hq => h q (.tail _ hq)).trans (Slots.apply_other o t r (h r (.head _)))

section Removal

variable {o : Owner} {t : Slots} {regs calls : List RegOp} (hregs : ∀ r ∈ regs, deregisters r = false)
include hregs

/-- Registrations and their deregistrations, in any order, leave every handler list (41_portbus.md R201). -/
theorem sameHandlers_of_perm (hperm : calls.Perm (regs.map undoReg)) :
    ((t.applyAll o regs).applyAll o calls).sameHandlers t = true :=
  Slots.sameHandlers_iff.2 fun n => ⟨readerList.handlers_undone o t n hregs hperm,
    writerList.handlers_undone o t n hregs hperm, resetterList.handlers_undone o t n hregs hperm⟩

/-- Deregistrations that leave a handler registered, or take one more that stood before, do not (R202). -/
theorem sameHandlers_eq_false (hcalls : ∀ q ∈ calls, deregisters q = true)
    (hr : ∃ r, calls.count (undoReg r) < regs.count r ∨ regs.count r < calls.count (undoReg r) ∧ t.stands r) :
    ((t.applyAll o regs).applyAll o calls).sameHandlers t = false := by
  obtain ⟨r, hr⟩ := hr
  rw [← Bool.not_eq_true, Slots.sameHandlers_iff]
  intro hsame
  have hcount : regs.count r ≤ calls.count (undoReg r) ∧
      (t.stands r → calls.count (undoReg r) = regs.count r) := by
    cases r with
    | addReader p h => exact readerList.count_of_handlers_eq o t p hregs hcalls (hsame p).1 h
    | addWriter p h => exact writerList.count_of_handlers_eq o t p hregs hcalls (hsame p).2.1 h
    | addReset p h => exact resetterList.count_of_handlers_eq o t p hregs hcalls (hsame p).2.2 h
    | removeReader | removeWriter | removeReset =>
      refine ⟨?_, False.elim⟩
      rw [List.count_eq_zero.2 fun hm => Bool.noConfusion (hregs _ hm)]
      exact Nat.zero_le _
  obtain hr | ⟨hr, hs⟩ := hr
  · exact absurd hcount.1 (Nat.not_le_of_lt hr)
  · exact absurd (hcount.2 hs) (Nat.ne_of_gt hr)

end Removal

end Sys2Proof.Machine
end

section
/-! PROOF. INSTALL and REMOVE (46_backplane.md R402, R404): which state a peripheral starts with and leaves behind, and
which handlers a card registers (45_fdc.md R330). -/

namespace Sys2Proof.Machine

/-! ### What is installed -/

/-- A peripheral is installed in a slot or in the socket. -/
theorem State.installed_iff {s : State} {p : Periph} :
    s.installed p = true ↔ (∃ k : Fin 4, s.card.get k = some p) ∨ s.cart = some p := by
  have hcard : s.card.toList.any (fun q => decide (q = some p)) = true ↔ ∃ k : Fin 4, s.card.get k = some p := by
    rw [List.any_eq_true]
    simp only [decide_eq_true_eq, exists_eq_right, Vector.mem_toList_iff, Vector.mem_iff_getElem]
    exact ⟨fun ⟨i, hi, h⟩ => ⟨⟨i, hi⟩, h⟩, fun ⟨k, h⟩ => ⟨k.val, k.isLt, h⟩⟩
  rw [State.installed, Bool.or_eq_true, hcard, decide_eq_true_eq]

/-! ### A peripheral's own state -/

theorem State.KeepsPeripherals.refl (s : State) (p : Periph) : s.KeepsPeripherals p s :=
  ⟨fun _ => rfl, fun _ => rfl, fun _ => rfl, fun _ _ => rfl⟩

theorem State.KeepsPeripherals.trans {s t u : State} {p : Periph} (h : s.KeepsPeripherals p t)
    (k : t.KeepsPeripherals p u) : s.KeepsPeripherals p u := by
  obtain ⟨hfdc, hx6, hx4, hothers⟩ := h
  obtain ⟨kfdc, kx6, kx4, kothers⟩ := k
  exact ⟨fun hp => (kfdc hp).trans (hfdc hp), fun hp => (kx6 hp).trans (hx6 hp), fun hp => (kx4 hp).trans (hx4 hp),
    fun n hp => (kothers n hp).trans (hothers n hp)⟩

theorem State.keepsPeripherals_setXsnd6 (s : State) (x : Chip) : s.KeepsPeripherals (.dev .xsnd6) (s.setXsnd6 x) :=
  ⟨fun _ => rfl, fun h => absurd rfl h, fun _ => rfl, fun _ _ => rfl⟩

theorem State.keepsPeripherals_setXsnd4 (s : State) (x : Chip) : s.KeepsPeripherals (.dev .xsnd4) (s.setXsnd4 x) :=
  ⟨fun _ => rfl, fun _ => rfl, fun h => absurd rfl h, fun _ _ => rfl⟩

theorem State.keepsPeripherals_setFdc (s : State) (x : Fdc) : s.KeepsPeripherals .fdc (s.setFdc x) :=
  ⟨fun h => absurd rfl h, fun _ => rfl, fun _ => rfl, fun _ _ => rfl⟩

/-- A change of the numbered devices that leaves every other one than n alone. -/
theorem State.keepsPeripherals_setOthers (s : State) {n : Nat} {x : NatMap}
    (h : ∀ m, m ≠ n → x.find m = s.others.find m) : s.KeepsPeripherals (.dev (.other n)) (s.setOthers x) :=
  ⟨fun _ => rfl, fun _ => rfl, fun _ => rfl, fun m hm => h m fun hmn => hm (by rw [hmn])⟩

/-- A key taken out has no value. -/
theorem NatMap.find_drop_same (m : NatMap) (a : Nat) : (m.drop a).find a = none := by
  induction m with
  | nil => rfl
  | cons e m ih =>
    by_cases h : e.1 = a
    · rw [NatMap.drop, List.filter_cons_of_neg (by simpa using h)]
      exact ih
    · rw [NatMap.drop, List.filter_cons_of_pos (by simpa using h), NatMap.find, if_neg (Ne.symm h)]
      exact ih

/-- A key taken out leaves every other key alone. -/
theorem NatMap.find_drop_other (m : NatMap) {a x : Nat} (hx : x ≠ a) : (m.drop a).find x = m.find x := by
  induction m with
  | nil => rfl
  | cons e m ih =>
    by_cases h : e.1 = a
    · rw [NatMap.drop, List.filter_cons_of_neg (by simpa using h), NatMap.find, if_neg (h ▸ hx)]
      exact ih
    · rw [NatMap.drop, List.filter_cons_of_pos (by simpa using h), NatMap.find, NatMap.find, ← ih]
      rfl

/-- One installed already keeps its state (R402, log 25). -/
theorem freshPeriph_of_installed (c : Cfg) {p : Periph} {s : State} (h : s.installed p = true) :
    freshPeriph c p s = s := if_pos h

/-- A fresh peripheral touches no other's state (R401). -/
theorem freshPeriph_keepsPeripherals (c : Cfg) (p : Periph) (s : State) : s.KeepsPeripherals p (freshPeriph c p s) := by
  unfold freshPeriph
  split
  case isTrue => exact .refl s p
  case isFalse =>
    match p with
    | .fdc => exact s.keepsPeripherals_setFdc _
    | .dev .xsnd6 => exact s.keepsPeripherals_setXsnd6 _
    | .dev .xsnd4 => exact s.keepsPeripherals_setXsnd4 _
    | .dev (.other n) => exact s.keepsPeripherals_setOthers fun m hm => NatMap.find_put_other _ _ hm

/-- Only a fresh FDC takes draws. -/
theorem freshPeriph_draws (c : Cfg) {p : Periph} (hp : p ≠ .fdc) (s : State) :
    (freshPeriph c p s).draws = s.draws := by
  unfold freshPeriph
  split
  case isTrue => rfl
  case isFalse =>
    match p with
    | .fdc => exact absurd rfl hp
    | .dev .xsnd6 | .dev .xsnd4 | .dev (.other _) => rfl

/-- A fresh peripheral starts in its power-on state (R402, log 25). -/
theorem freshPeriph_started (c : Cfg) (p : Periph) (s : State) : s.Started c p (freshPeriph c p s) := by
  refine ⟨fun h => ?_, fun h => ?_⟩
  · rw [freshPeriph_of_installed c h]
    exact ⟨rfl, rfl, rfl, rfl, rfl⟩
  · unfold freshPeriph
    rw [h, if_neg Bool.false_ne_true]
    match p with
    | .fdc => exact ⟨rfl, rfl, rfl, rfl, rfl, rfl, rfl, rfl, rfl⟩
    | .dev .xsnd6 | .dev .xsnd4 => rfl
    | .dev (.other n) => exact NatMap.find_put_same _ _ _

/-- One installed elsewhere keeps its state (R404). -/
theorem dropPeriph_of_installed (c : Cfg) {p : Periph} {s : State} (h : s.installed p = true) :
    dropPeriph c p s = s := if_pos h

/-- A peripheral dropped takes no other's state with it (R401). -/
theorem dropPeriph_keepsPeripherals (c : Cfg) (p : Periph) (s : State) : s.KeepsPeripherals p (dropPeriph c p s) := by
  unfold dropPeriph
  split
  case isTrue => exact .refl s p
  case isFalse =>
    match p with
    | .fdc => exact s.keepsPeripherals_setFdc _
    | .dev .xsnd6 => exact s.keepsPeripherals_setXsnd6 _
    | .dev .xsnd4 => exact s.keepsPeripherals_setXsnd4 _
    | .dev (.other n) => exact s.keepsPeripherals_setOthers fun m hm => NatMap.find_drop_other _ hm

/-- What stands in a dropped peripheral's place (R404, log 25). -/
theorem dropPeriph_dropped (c : Cfg) {p : Periph} {s : State} (h : s.installed p = false) :
    s.Dropped c p (dropPeriph c p s) := by
  unfold dropPeriph
  rw [h, if_neg Bool.false_ne_true]
  match p with
  | .fdc =>
    refine ⟨rfl, fun j => ?_⟩
    simp [Fdc.dropped, Vector.get_eq_getElem, Function.comp_def]
  | .dev .xsnd6 | .dev .xsnd4 => rfl
  | .dev (.other n) => exact NatMap.find_drop_same _ _

/-- A fresh FDC holds the host's images still (log 25). -/
theorem Fdc.fresh_image (c : Cfg) (now : Tick) (n : Nat) (f : Fdc) (j : Fin 4) :
    ((Fdc.fresh c now n f).drive.get j).map Drive.image = (f.drive.get j).map Drive.image := by
  simp [Fdc.fresh, Vector.get_eq_getElem, Function.comp_def, Drive.fresh]

/-- A peripheral put in and taken out again is dropped, if it is installed nowhere. -/
theorem State.Dropped.of_fresh {c : Cfg} {p : Periph} {s u : State} (h : (freshPeriph c p s).Dropped c p u) :
    s.Dropped c p u := by
  have hnow : (freshPeriph c p s).now = s.now := by rw [freshPeriph_frame]
  match p with
  | .fdc =>
    obtain ⟨hfdc, himage⟩ := h
    refine ⟨hnow ▸ hfdc, fun j => (himage j).trans ?_⟩
    unfold freshPeriph
    split
    · rfl
    · exact Fdc.fresh_image c s.now s.draws s.fdc j
  | .dev .xsnd6 | .dev .xsnd4 => exact h.trans (by rw [hnow])
  | .dev (.other n) => exact h

/-! ### The registrations of a card (R330, R402) -/

/-- A card's Install makes registrations only. -/
theorem deregisters_of_mem_installRegs {c : Cfg} {k : Fin 4} {p : Periph} {r : RegOp} (h : r ∈ installRegs c k p) :
    deregisters r = false := by
  cases p with
  | fdc =>
    simp only [installRegs, List.mem_append, List.mem_cons, List.not_mem_nil, or_false, List.mem_map] at h
    rcases h with (rfl | rfl | rfl | rfl | rfl | rfl | rfl | rfl | rfl | rfl) | ⟨o, -, rfl⟩ <;> rfl
  | dev d =>
    simp only [installRegs, List.mem_append, List.mem_singleton, List.mem_map] at h
    rcases h with (⟨o, -, rfl⟩ | ⟨o, -, rfl⟩) | rfl <;> rfl

/-- Two offsets of a window share a slot only when they are the same (30_encoding.md R143). -/
theorem cardSlot_eq_iff {k : Fin 4} {i j : Fin 16} : cardSlot k i = cardSlot k j ↔ i = j :=
  ⟨fun h => (cardSlot_inj h).2, congrArg _⟩

section Added

variable {α : Type} [DecidableEq α] (v : HandlerList α) (n : Byte)

theorem HandlerList.addedAll_nil : v.addedAll n [] = [] := rfl

theorem HandlerList.addedAll_append (l m : List RegOp) : v.addedAll n (l ++ m) = v.addedAll n l ++ v.addedAll n m :=
  List.filterMap_append ..

theorem HandlerList.addedAll_cons (r : RegOp) (l : List RegOp) :
    v.addedAll n (r :: l) = (v.added n r).toList ++ v.addedAll n l := by
  rw [HandlerList.addedAll, List.filterMap_cons]
  cases v.added n r <;> rfl

/-- Calls that register no such handler. -/
theorem HandlerList.addedAll_map_none {β : Type} {f : β → RegOp} (hf : ∀ x, v.added n (f x) = none) (l : List β) :
    v.addedAll n (l.map f) = [] := by
  rw [HandlerList.addedAll, List.filterMap_map, List.filterMap_eq_nil_iff]
  exact fun x _ => hf x

/-- A handler registered on offsets of a window stands on each as often as the offset is named. -/
theorem HandlerList.addedAll_window (k : Fin 4) (j : Fin 16) (h : α) (l : List (Fin 16)) :
    v.addedAll (cardSlot k j) (l.map fun o => v.call (cardSlot k o) h) = List.replicate (l.count j) h := by
  induction l with
  | nil => rfl
  | cons o l ih =>
    rw [List.map_cons, HandlerList.addedAll_cons, ih, v.added_call]
    by_cases ho : o = j
    · rw [if_pos (cardSlot_eq_iff.2 ho), ho, List.count_cons_self]
      rfl
    · rw [if_neg (cardSlot_eq_iff.not.2 ho), List.count_cons_of_ne ho]
      rfl

end Added

/-- Handlers on the first four offsets of a window, in order. -/
theorem ites_append {α : Type} (j : Fin 16) (w x y z : α) (l : List α) :
    (if j = 0 then [w] else []) ++ ((if j = 1 then [x] else []) ++ ((if j = 2 then [y] else []) ++
      ((if j = 3 then [z] else []) ++ l))) =
    (if j = 0 then [w] else if j = 1 then [x] else if j = 2 then [y] else if j = 3 then [z] else []) ++ l := by
  by_cases h0 : j = 0
  · simp [h0]
  by_cases h1 : j = 1
  · simp [h1]
  by_cases h2 : j = 2
  · simp [h2]
  simp [h0, h1, h2]

/-- The readers of the FDC's card (R330, R390). -/
theorem addedAll_fdc_readers (c : Cfg) (k : Fin 4) (j : Fin 16) :
    readerList.addedAll (cardSlot k j) (installRegs c k .fdc) =
      (if j = 0 then [Reader.fdcStatus] else if j = 1 then [.fdcTrack] else if j = 2 then [.fdcSector]
        else if j = 3 then [.fdcData] else []) ++ (if c.fdc.linesPort = some j then [.fdcLines] else []) := by
  have hlines : readerList.addedAll (cardSlot k j)
      (c.fdc.linesPort.toList.map fun o => .addReader (cardSlot k o) .fdcLines) =
        if c.fdc.linesPort = some j then [.fdcLines] else [] := by
    refine (readerList.addedAll_window k j .fdcLines _).trans ?_
    cases c.fdc.linesPort with
    | none => rfl
    | some o => by_cases h : o = j <;> simp [h]
  rw [installRegs, HandlerList.addedAll_append, hlines]
  simp only [HandlerList.addedAll_cons, HandlerList.addedAll_nil, readerList, cardSlot_eq_iff, eq_comm (b := j),
    apply_ite Option.toList, Option.toList_some, Option.toList_none, List.nil_append, List.append_nil,
    List.append_assoc]
  exact ites_append j _ _ _ _ _

/-- The writers of the FDC's card; the drive-select writer comes last (log 46). -/
theorem addedAll_fdc_writers (c : Cfg) (k : Fin 4) (j : Fin 16) :
    writerList.addedAll (cardSlot k j) (installRegs c k .fdc) =
      (if j = 0 then [Writer.fdcCmd] else if j = 1 then [.fdcTrack] else if j = 2 then [.fdcSector]
        else if j = 3 then [.fdcData] else []) ++ (if j = c.fdc.ctrlOffset then [.fdcCtrl] else []) := by
  rw [installRegs, HandlerList.addedAll_append, HandlerList.addedAll_map_none writerList _ fun _ => rfl]
  simp only [HandlerList.addedAll_cons, HandlerList.addedAll_nil, writerList, cardSlot_eq_iff, eq_comm (b := j),
    apply_ite Option.toList, Option.toList_some, Option.toList_none, List.nil_append, List.append_nil]
  exact ites_append j _ _ _ _ _

/-- The readers of a device's card (log 44). -/
theorem addedAll_dev_readers (c : Cfg) (k : Fin 4) (d : Dev) (j : Fin 16) :
    readerList.addedAll (cardSlot k j) (installRegs c k (.dev d)) =
      List.replicate ((c.dev.readPorts d k).count j) (.dev d) := by
  rw [installRegs, HandlerList.addedAll_append, HandlerList.addedAll_append,
    HandlerList.addedAll_map_none readerList (f := fun o => .addWriter (cardSlot k o) (.dev d)) _ fun _ => rfl,
    List.append_nil]
  exact (List.append_nil _).trans (readerList.addedAll_window k j (.dev d) _)

/-- The writers of a device's card (log 44). -/
theorem addedAll_dev_writers (c : Cfg) (k : Fin 4) (d : Dev) (j : Fin 16) :
    writerList.addedAll (cardSlot k j) (installRegs c k (.dev d)) =
      List.replicate ((c.dev.writePorts d k).count j) (.dev d) := by
  rw [installRegs, HandlerList.addedAll_append, HandlerList.addedAll_append,
    HandlerList.addedAll_map_none writerList (f := fun o => .addReader (cardSlot k o) (.dev d)) _ fun _ => rfl,
    List.nil_append]
  exact (List.append_nil _).trans (writerList.addedAll_window k j (.dev d) _)

/-- The one reset handler of a card (R402). -/
theorem addedAll_resets (c : Cfg) (k : Fin 4) (p : Periph) (n : Byte) :
    resetterList.addedAll n (installRegs c k p) = if n = cardSlot k 0 then [periphResetter p] else [] := by
  have hreset : resetterList.addedAll n [.addReset (cardSlot k 0) (periphResetter p)] =
      if n = cardSlot k 0 then [periphResetter p] else [] := by
    simp [HandlerList.addedAll_cons, HandlerList.addedAll_nil, resetterList, apply_ite Option.toList, eq_comm]
  rw [← hreset]
  cases p with
  | fdc =>
    rw [installRegs, HandlerList.addedAll_append, HandlerList.addedAll_map_none resetterList _ fun _ => rfl]
    exact List.append_nil _
  | dev d =>
    rw [installRegs, HandlerList.addedAll_append, HandlerList.addedAll_append,
      HandlerList.addedAll_map_none resetterList (f := fun o => .addReader (cardSlot k o) (.dev d)) _ fun _ => rfl,
      HandlerList.addedAll_map_none resetterList (f := fun o => .addWriter (cardSlot k o) (.dev d)) _ fun _ => rfl]
    rfl

/-! ### INSTALL -/

theorem exec_install (k : Socket) (p : Periph) (s : State) :
    exec (.install k p) s = .next ((installOp Config.cfg k p s).setResult .none) := rfl

/-- INSTALL into an empty slot. -/
theorem installOp_slot (c : Cfg) {k : Fin 4} (p : Periph) {s : State} (h : s.card.get k = none) :
    installOp c (.slot k) p s =
      ((freshPeriph c p s).setCard (s.card.set k.val (some p) k.isLt)).setSlots
        (s.slots.applyAll (.slot k) (installRegs c k p)) := by
  simp only [installOp, installCard, h]
  rw [freshPeriph_frame]
  rfl

/-- INSTALL into an empty socket. -/
theorem installOp_cart (c : Cfg) (p : Periph) {s : State} (h : s.cart = none) :
    installOp c .cart p s = (freshPeriph c p s).setCart (some p) := by
  simp only [installOp, installCart, h]

/-- INSTALL into an occupied slot is refused (log 4). -/
theorem installOp_slot_occupied (c : Cfg) {k : Fin 4} (p : Periph) {q : Periph} {s : State}
    (h : s.card.get k = some q) : installOp c (.slot k) p s = s.refuse := by
  simp only [installOp, installCard, h]

/-- INSTALL into an occupied socket is refused (log 4). -/
theorem installOp_cart_occupied (c : Cfg) (p : Periph) {q : Periph} {s : State} (h : s.cart = some q) :
    installOp c .cart p s = s.refuse := by
  simp only [installOp, installCart, h]

/-- The handlers of a slot after a card's registrations (R402). -/
theorem at_applyAll_installRegs (c : Cfg) (k : Fin 4) (p : Periph) (t : Slots) (n : Byte) :
    ((t.applyAll (.slot k) (installRegs c k p)).at n).readers =
        (t.at n).readers ++ (readerList.addedAll n (installRegs c k p)).map (Entry.mk (.slot k)) ∧
      ((t.applyAll (.slot k) (installRegs c k p)).at n).writers =
        (t.at n).writers ++ (writerList.addedAll n (installRegs c k p)).map (Entry.mk (.slot k)) ∧
      ((t.applyAll (.slot k) (installRegs c k p)).at n).resets =
        (t.at n).resets ++ (resetterList.addedAll n (installRegs c k p)).map (Entry.mk (.slot k)) :=
  have hregs : ∀ r ∈ installRegs c k p, deregisters r = false := fun _ => deregisters_of_mem_installRegs
  ⟨readerList.list_registerAll _ t n hregs, writerList.list_registerAll _ t n hregs,
    resetterList.list_registerAll _ t n hregs⟩

/-- A card's registrations stand in its window only (R402). -/
theorem at_applyAll_installRegs_other (c : Cfg) {k : Fin 4} (p : Periph) (t : Slots) {n : Byte}
    (hn : ∀ j : Fin 16, n ≠ cardSlot k j) : (t.applyAll (.slot k) (installRegs c k p)).at n = t.at n :=
  Slots.applyAll_other _ _ fun r hr hrn => by
    obtain ⟨o, ho⟩ := regPort_of_mem_installRegs hr
    exact hn o (hrn.trans ho)

/-- Settles O55: the peripheral starts with its own state, and its registrations, read off list by list, stand in its
window only. -/
theorem installCard_holds : Obligations.InstallCard := by
  intro k p s hk
  refine ⟨_, exec_install (.slot k) p s, ?_⟩
  rw [installOp_slot Config.cfg p hk]
  have hframe := freshPeriph_frame Config.cfg p s
  have hkeeps := freshPeriph_keepsPeripherals Config.cfg p s
  have hdraws (hp : p ≠ .fdc) := freshPeriph_draws Config.cfg hp s
  have hstarted := freshPeriph_started Config.cfg p s
  have hat := at_applyAll_installRegs Config.cfg k p s.slots
  have hother (n : Byte) (hn : ∀ j : Fin 16, n ≠ cardSlot k j) := at_applyAll_installRegs_other Config.cfg p s.slots hn
  generalize freshPeriph Config.cfg p s = x at *
  simp only [State.setResult_slots, State.setSlots_slots]
  refine ⟨?_, hkeeps, hdraws, hstarted, hother, fun n => ?_, fun hp j => ?_, fun d hp j => ?_⟩
  · rw [hframe]
    rfl
  · obtain ⟨-, -, hresets⟩ := hat n
    rw [hresets, addedAll_resets, apply_ite (List.map (Entry.mk (.slot k)))]
    cases p <;> rfl
  · subst hp
    obtain ⟨hreaders, hwriters, -⟩ := hat (cardSlot k j)
    rw [hreaders, hwriters, addedAll_fdc_readers, addedAll_fdc_writers]
    simp only [List.map_append, apply_ite (List.map (Entry.mk (.slot k))), List.append_assoc]
    exact ⟨rfl, rfl⟩
  · subst hp
    obtain ⟨hreaders, hwriters, -⟩ := hat (cardSlot k j)
    rw [hreaders, hwriters, addedAll_dev_readers, addedAll_dev_writers, List.map_replicate, List.map_replicate]
    exact ⟨rfl, rfl⟩

/-! ### REMOVE -/

theorem exec_remove (k : Socket) (s : State) :
    exec (.remove k) s = .next ((removeOp Config.cfg k s).setResult .none) := rfl

/-- REMOVE of an empty slot changes nothing (R404). -/
theorem removeOp_slot_empty (c : Cfg) {k : Fin 4} {s : State} (h : s.card.get k = none) :
    removeOp c (.slot k) s = s := by
  simp only [removeOp, removeCard, h]

/-- REMOVE of an empty socket changes nothing (R404). -/
theorem removeOp_cart_empty (c : Cfg) {s : State} (h : s.cart = none) : removeOp c .cart s = s := by
  simp only [removeOp, removeCart, h]

/-- REMOVE of a card goes by the handlers that are left (R404). -/
theorem removeOp_slot (c : Cfg) {k : Fin 4} {p : Periph} {s : State} (h : s.card.get k = some p) :
    removeOp c (.slot k) s =
      if (s.afterRemove c (.slot k) p (.slot k)).sameHandlers (s.slots.without (.slot k)) then
        dropPeriph c p ((s.setCard (s.card.set k.val none k.isLt)).setSlots (s.slots.without (.slot k)))
      else s.refuse := by
  simp only [removeOp, removeCard, h]

/-- REMOVE of the cartridge goes by the handlers that are left (R404). -/
theorem removeOp_cart (c : Cfg) {p : Periph} {s : State} (h : s.cart = some p) :
    removeOp c .cart s =
      if (s.afterRemove c .cart p .host).sameHandlers s.slots then dropPeriph c p (s.setCart none) else s.refuse := by
  simp only [removeOp, removeCart, h]

/-- The FDC's and a chip's Remove from a slot undoes the Install (R330, log 44). -/
theorem removeRegs_slot (c : Cfg) (core : Dev → Nat) (now : Tick) (k : Fin 4) {p : Periph}
    (hp : ∀ n : Nat, p ≠ .dev (.other n)) : removeRegs c core now (.slot k) p = (installRegs c k p).map undoReg := by
  match p with
  | .fdc | .dev .xsnd6 | .dev .xsnd4 => rfl
  | .dev (.other n) => exact absurd rfl (hp n)

/-- Their Remove from the socket asks nothing of the bus (log 44). -/
theorem removeRegs_cart (c : Cfg) (core : Dev → Nat) (now : Tick) {p : Periph} (hp : ∀ n : Nat, p ≠ .dev (.other n)) :
    removeRegs c core now .cart p = [] := by
  match p with
  | .fdc | .dev .xsnd6 | .dev .xsnd4 => rfl
  | .dev (.other n) => exact absurd rfl (hp n)

/-- The cartridge taken out leaves the other places as they are. -/
theorem State.installed_setCart_none {s : State} {p : Periph} :
    (s.setCart none).installed p = true ↔ ∃ k : Fin 4, s.card.get k = some p := by
  rw [State.installed_iff]
  exact or_iff_left nofun

/-- What REMOVE of the cartridge does where it is not refused. -/
theorem dropPeriph_setCart_none (c : Cfg) (p : Periph) (s : State) :
    let t := dropPeriph c p (s.setCart none)
    t = { s with cart := none, fdc := t.fdc, xsnd6 := t.xsnd6, xsnd4 := t.xsnd4, others := t.others } ∧
      s.KeepsPeripherals p t ∧
      ((∃ k : Fin 4, s.card.get k = some p) →
        t.fdc = s.fdc ∧ t.xsnd6 = s.xsnd6 ∧ t.xsnd4 = s.xsnd4 ∧ t.others = s.others) ∧
      ((∀ k : Fin 4, s.card.get k ≠ some p) → s.Dropped c p t) := by
  intro t
  refine ⟨dropPeriph_frame c p (s.setCart none), dropPeriph_keepsPeripherals c p (s.setCart none), fun hk => ?_,
    fun hk => ?_⟩
  · have ht : t = s.setCart none := dropPeriph_of_installed c (State.installed_setCart_none.2 hk)
    rw [ht]
    exact ⟨rfl, rfl, rfl, rfl⟩
  · have hi : (s.setCart none).installed p = false :=
      Bool.eq_false_iff.2 fun h => not_exists.2 hk (State.installed_setCart_none.1 h)
    exact dropPeriph_dropped c hi

/-- The handler lists after the Remove of the FDC or a chip from the socket (log 44). -/
theorem afterRemove_cart (c : Cfg) {p : Periph} (hp : ∀ n : Nat, p ≠ .dev (.other n)) (s : State) :
    s.afterRemove c .cart p .host = s.slots := by
  rw [State.afterRemove, removeRegs_cart c _ _ hp]
  rfl

/-- Settles O56: an occupied place, an empty one, and the cartridge's Remove by the handlers it leaves. -/
theorem backplaneCorners : Obligations.BackplaneCorners := by
  refine ⟨fun k p q s hk => ?_, fun p q s hk => ?_, fun p s hk => ?_, fun k s hk => ?_, fun s hk => ?_,
    fun s => exec_remove .cart s, fun c p s hp => ?_⟩
  · rw [exec_install, installOp_slot_occupied _ p hk]
  · rw [exec_install, installOp_cart_occupied _ p hk]
  · refine ⟨_, exec_install .cart p s, ?_⟩
    rw [installOp_cart Config.cfg p hk]
    refine ⟨?_, freshPeriph_keepsPeripherals Config.cfg p s, fun hp => freshPeriph_draws Config.cfg hp s,
      freshPeriph_started Config.cfg p s⟩
    rw [freshPeriph_frame]
    rfl
  · rw [exec_remove, removeOp_slot_empty _ hk]
  · rw [exec_remove, removeOp_cart_empty _ hk]
  · intro t same
    have ht : t = if same then dropPeriph c p (s.setCart none) else s.refuse := removeOp_cart c hp
    refine ⟨fun hs => ?_, fun hs => ?_, fun hn => ?_, fun n hn => ?_⟩
    · rw [ht, hs, if_neg Bool.false_ne_true]
    · rw [ht, hs, if_pos rfl]
      exact dropPeriph_setCart_none c p s
    · simp only [same, afterRemove_cart c hn, Slots.sameHandlers_self]
    · subst hn
      intro calls
      refine ⟨fun hc => ?_, fun hc ⟨r, hr, hs⟩ => ?_⟩
      · have hafter : s.afterRemove c .cart (.dev (.other n)) .host = s.slots := congrArg (s.slots.applyAll .host) hc
        simp only [same, hafter, Slots.sameHandlers_self]
      · exact sameHandlers_eq_false (regs := []) nofun hc ⟨r, .inr ⟨List.count_pos_iff.2 hr, hs⟩⟩

/-! ### INSTALL and then REMOVE -/

/-- A slot is its three lists. -/
theorem PortSlot.ext_lists {q r : PortSlot} (hreaders : readerList.list q = readerList.list r)
    (hwriters : writerList.list q = writerList.list r) (hresets : resetterList.list q = resetterList.list r) :
    q = r := by
  cases q
  cases r
  cases hreaders
  cases hwriters
  cases hresets
  rfl

theorem Slots.at_without (o : Owner) (t : Slots) (n : Byte) : (t.without o).at n = (t.at n).without o := by
  simp only [Slots.at, Slots.without, Vector.get_eq_getElem, Vector.getElem_map]

/-- A list with an owner's registrations is what it was once that owner's entries are left out, if it had none. -/
theorem HandlerList.list_without_registerAll {α : Type} [DecidableEq α] (v : HandlerList α) {o : Owner} {t : Slots}
    {n : Byte} {regs : List RegOp} (hregs : ∀ r ∈ regs, deregisters r = false)
    (ht : ∀ e ∈ v.list (t.at n), e.owner ≠ o) : v.list (((t.applyAll o regs).at n).without o) = v.list (t.at n) := by
  rw [v.list_without, v.list_registerAll o t n hregs, List.filter_append, List.filter_eq_self.2 (by simpa using ht),
    List.filter_eq_nil_iff.2 (by simp), List.append_nil]

/-- The same for all slots (46_backplane.md R404, log 16). -/
theorem Slots.without_registerAll {o : Owner} {t : Slots} {regs : List RegOp}
    (hregs : ∀ r ∈ regs, deregisters r = false) (ht : t.All fun _ x => x ≠ o) :
    (t.applyAll o regs).without o = t := by
  refine Slots.ext_at fun n => ?_
  obtain ⟨hreaders, hwriters, hresets⟩ := ht n
  rw [Slots.at_without]
  exact PortSlot.ext_lists (readerList.list_without_registerAll hregs hreaders)
    (writerList.list_without_registerAll hregs hwriters) (resetterList.list_without_registerAll hregs hresets)

/-- A card put into an empty slot and taken out again leaves what its Install made of its own state. -/
theorem setCard_installOp (c : Cfg) {k : Fin 4} (p : Periph) {s : State} (hk : s.card.get k = none) :
    ((installOp c (.slot k) p s).setCard ((installOp c (.slot k) p s).card.set k.val none k.isLt)).setSlots s.slots =
      freshPeriph c p s := by
  have hcard : (s.card.set k.val (some p) k.isLt).set k.val none k.isLt = s.card := by
    rw [Vector.set_set, ← hk]
    exact Vector.set_getElem_self _
  rw [installOp_slot c p hk]
  simp only [State.setSlots_card, State.setCard_card, hcard]
  rw [freshPeriph_frame]
  rfl

/-- A fresh peripheral is installed where it was. -/
theorem installed_freshPeriph (c : Cfg) (p q : Periph) (s : State) :
    (freshPeriph c p s).installed q = s.installed q := by
  rw [freshPeriph_frame]
  rfl

/-- What INSTALL and then REMOVE leave where the Remove is not refused: the peripheral's own state alone. -/
theorem dropPeriph_freshPeriph (c : Cfg) (p : Periph) (s : State) :
    let u := dropPeriph c p (freshPeriph c p s)
    u = { s with
          fdc := u.fdc, xsnd6 := u.xsnd6, xsnd4 := u.xsnd4, others := u.others, draws := (freshPeriph c p s).draws } ∧
      s.KeepsPeripherals p u ∧
      (s.installed p = true → u.fdc = s.fdc ∧ u.xsnd6 = s.xsnd6 ∧ u.xsnd4 = s.xsnd4 ∧ u.others = s.others) ∧
      (s.installed p = false → s.Dropped c p u) := by
  intro u
  refine ⟨?_, (freshPeriph_keepsPeripherals c p s).trans (dropPeriph_keepsPeripherals c p _), fun h => ?_, fun h => ?_⟩
  · have hu : u = { freshPeriph c p s with xsnd6 := u.xsnd6, xsnd4 := u.xsnd4, fdc := u.fdc, others := u.others } :=
      dropPeriph_frame c p _
    rw [hu, freshPeriph_frame]
  · have hu : u = s :=
      (congrArg (dropPeriph c p) (freshPeriph_of_installed c h)).trans (dropPeriph_of_installed c h)
    rw [hu]
    exact ⟨rfl, rfl, rfl, rfl⟩
  · exact .of_fresh (dropPeriph_dropped c ((installed_freshPeriph c p p s).trans h))

/-- Settles O57: what stands in the card's name is what it registered, so the lists are compared with those before the
Install, and the deregistrations are counted against the registrations. -/
theorem installRemove : Obligations.InstallRemove := by
  refine ⟨fun k p s => ⟨exec_install k p s, exec_remove k s⟩, fun c k p s hown hk => ?_⟩
  intro t u same
  have hregs : ∀ r ∈ installRegs c k p, deregisters r = false := fun _ => deregisters_of_mem_installRegs
  have hslots : t.slots = s.slots.applyAll (.slot k) (installRegs c k p) := by
    simp only [t, installOp_slot c p hk, State.setSlots_slots]
  have hcard : t.card.get k = some p := by
    simp only [t, installOp_slot c p hk, State.setSlots_card, State.setCard_card]
    exact Vector.getElem_set_self _
  have hdraws : t.draws = (freshPeriph c p s).draws := by
    simp only [t, installOp_slot c p hk]
    rfl
  have hwithout : t.slots.without (.slot k) = s.slots := by
    rw [hslots]
    exact Slots.without_registerAll hregs (Slots.All.mono hown fun _ _ hr => hr.ne_of_empty hk)
  have hu : u = if same then dropPeriph c p (freshPeriph c p s) else t.refuse := by
    simp only [u, removeOp_slot c hcard, hwithout]
    rw [setCard_installOp c p hk]
  have hsame (calls : List RegOp) (hc : removeRegs c (t.core c) t.now (.slot k) p = calls) :
      same = ((s.slots.applyAll (.slot k) (installRegs c k p)).applyAll (.slot k) calls).sameHandlers s.slots := by
    simp only [same, State.afterRemove, hslots, hc]
  refine ⟨fun hs => ?_, fun hs => ?_, fun hn => ?_, fun n hn => ?_⟩
  · rw [hu, hs, if_pos rfl, hdraws]
    exact dropPeriph_freshPeriph c p s
  · rw [hu, hs, if_neg Bool.false_ne_true]
  · rw [hsame _ (removeRegs_slot c _ _ k hn)]
    exact sameHandlers_of_perm hregs (.refl _)
  · subst hn
    intro calls regs
    rw [hsame calls rfl]
    exact ⟨sameHandlers_of_perm hregs, sameHandlers_eq_false hregs⟩

end Sys2Proof.Machine
end

section
/-! PROOF. PERIODIC (46_backplane.md R410): the peripherals' callbacks each act on a state of their own, and a second
call at the same tick finds nothing to do (44_sound.md R301, R313, 45_fdc.md R395). -/

namespace Sys2Proof.Machine

/-! ### The FDC's callback, twice at one tick (R395) -/

/-- A read that has ended is not ended again. -/
theorem streamDone_streamDone (f : Fdc) : streamDone (streamDone f) = streamDone f := by
  obtain h | ⟨-, hop, -⟩ := streamDone_cases f
  · rw [h]
    exact h
  · refine streamDone_of_not_givesBytes ?_
    rintro (h | h) <;> cases hop.symm.trans h

/-- No event of the FDC is left up to tick t, whatever the next edge. -/
def Fdc.Settled (c : Cfg) (t : Nat) (f : Fdc) : Prop :=
  streamDone f = f ∧ ¬(f.streaming = true ∧ f.deadline c ≤ t)

/-- The events up to tick t leave none. -/
theorem fdcEvents_settled (c : Cfg) {t k cur : Nat} {f : Fdc} {n : Nat} (h : t - cur + f.bytesLeft t ≤ k) :
    (fdcEvents c t k cur (f, n)).1.Settled c t := by
  induction k generalizing cur f n with
  | zero =>
    refine ⟨streamDone_streamDone f, fun ⟨hs, hd⟩ => ?_⟩
    have hlt : (fdcByte c (streamDone f)).bytesLeft t < (streamDone f).bytesLeft t := bytesLeft_fdcByte c hs hd
    rw [bytesLeft_streamDone] at hlt
    omega
  | succ k ih =>
    have hedge := lt_nextEdge c cur
    rw [← bytesLeft_streamDone] at h
    rw [fdcEvents_succ]
    split
    case isTrue hb =>
      obtain ⟨hs, hd, -⟩ := hb
      have := bytesLeft_fdcByte c hs hd
      exact ih (by omega)
    case isFalse hb =>
      split
      case isTrue =>
        have := bytesLeft_fdcEdge c t (BitVec.ofNat 64 (nextEdge c cur)) (streamDone f) n
        generalize fdcEdge c (BitVec.ofNat 64 (nextEdge c cur)) (streamDone f, n) = x at this ⊢
        exact ih (f := x.1) (n := x.2) (by omega)
      case isFalse he =>
        exact ⟨streamDone_streamDone f, fun ⟨hs, hd⟩ => hb ⟨hs, hd, Nat.lt_of_le_of_lt hd (by omega)⟩⟩

/-- With no event left the events do nothing. -/
theorem Fdc.Settled.fdcEvents {c : Cfg} {t : Nat} {f : Fdc} (h : f.Settled c t) (k n : Nat) :
    fdcEvents c t k t (f, n) = (f, n) := by
  obtain ⟨hdone, hbyte⟩ := h
  have hedge := lt_nextEdge c t
  cases k with
  | zero => simp only [Machine.fdcEvents, hdone]
  | succ k => rw [fdcEvents_succ, hdone, if_neg fun ⟨hs, hd, _⟩ => hbyte ⟨hs, hd⟩, if_neg (by omega)]

/-- A seek whose delay has elapsed at tick t (R351). -/
def Fdc.SeekDue (t : Tick) (f : Fdc) : Prop := f.fop = .seek ∧ f.fdelay.toNat ≤ (ticksSince t f.fstart).toNat

theorem seekPoll_of_not_due {t : Tick} {f : Fdc} (h : ¬f.SeekDue t) : seekPoll t f = f := if_neg h

/-- After the seek check no seek is due. -/
theorem not_seekDue_seekPoll (t : Tick) (f : Fdc) : ¬(seekPoll t f).SeekDue t := by
  unfold seekPoll
  split
  case isTrue => exact fun h => nomatch h.1
  case isFalse h => exact h

/-- What leaves an FDC as it is, or with an operation that is no seek, makes no seek due. -/
theorem Fdc.not_seekDue_of {t : Tick} {f g : Fdc} (hg : g = f ∨ g.fop ≠ .seek) (hf : ¬f.SeekDue t) :
    ¬g.SeekDue t := by
  obtain rfl | hg := hg
  · exact hf
  · exact fun h => hg h.1

/-- An index edge starts no seek. -/
theorem fdcEdge_eq_or_no_seek (c : Cfg) (u : Tick) (f : Fdc) (n : Nat) :
    (fdcEdge c u (f, n)).1 = f ∨ (fdcEdge c u (f, n)).1.fop ≠ .seek := by
  by_cases h : f.awaitsIndex
  · exact .inr (h.fdcEdge_fop c u n)
  · obtain he | he := fdcEdge_cases c u n h <;> rw [he]
    · exact .inl rfl
    · exact .inr nofun

theorem Fdc.givesBytes.no_seek {f : Fdc} (h : f.givesBytes) : f.fop ≠ .seek := by
  rintro h'
  simp [Fdc.givesBytes, h'] at h

theorem Fdc.takesBytes.no_seek {f : Fdc} (h : f.takesBytes) : f.fop ≠ .seek := by
  rintro h'
  simp [Fdc.takesBytes, h'] at h

/-- A byte deadline starts no seek. -/
theorem fdcByte_eq_or_no_seek (c : Cfg) (f : Fdc) : fdcByte c f = f ∨ (fdcByte c f).fop ≠ .seek := by
  by_cases hg : f.givesBytes
  · rw [hg.fdcByte]
    exact .inr hg.no_seek
  by_cases ht : f.takesBytes
  · rw [ht.fdcByte]
    exact .inr (ht.takeByte c).1.no_seek
  left
  cases h : f.fop with
  | sectorRead => exact absurd (.inl h) hg
  | idRead => exact absurd (.inr h) hg
  | trackWriteGap => exact absurd (.inl h) ht
  | trackWriteIdAddr => exact absurd (.inr (.inl h)) ht
  | trackWriteData => exact absurd (.inr (.inr h)) ht
  | _ => simp only [fdcByte, h]

/-- The end of a read starts no seek. -/
theorem streamDone_eq_or_no_seek (f : Fdc) : streamDone f = f ∨ (streamDone f).fop ≠ .seek :=
  (streamDone_cases f).imp_right fun ⟨_, hop, _⟩ h => nomatch hop.symm.trans h

/-- The events make no seek due. -/
theorem fdcEvents_not_seekDue (c : Cfg) {t : Tick} {f : Fdc} (h : ¬f.SeekDue t) (k cur n : Nat) :
    ¬(fdcEvents c t.toNat k cur (f, n)).1.SeekDue t :=
  fdcEvents_keeps (P := fun x => ¬x.1.SeekDue t) c t.toNat
    (fun u x => Fdc.not_seekDue_of (fdcEdge_eq_or_no_seek c u x.1 x.2))
    (fun g _ => Fdc.not_seekDue_of (fdcByte_eq_or_no_seek c g))
    (fun g _ => Fdc.not_seekDue_of (streamDone_eq_or_no_seek g)) k cur (f, n) h

/-- A second callback at the same tick does nothing (R410). -/
theorem fdcPeriodic_fdcPeriodic (c : Cfg) (t : Tick) (x : Fdc × Nat) :
    fdcPeriodic c t (fdcPeriodic c t x) = fdcPeriodic c t x := by
  have hfuel := (seekPoll t x.1).bytesLeft_le t.toNat
  have hsettled := fdcEvents_settled c (t := t.toNat) (k := 2 * t.toNat + 2) (cur := x.1.flast.toNat)
    (f := seekPoll t x.1) (n := x.2) (by omega)
  have hdue := fdcEvents_not_seekDue c (not_seekDue_seekPoll t x.1) (2 * t.toNat + 2) x.1.flast.toNat x.2
  have hx : fdcPeriodic c t x =
      ((fdcEvents c t.toNat (2 * t.toNat + 2) x.1.flast.toNat (seekPoll t x.1, x.2)).1.setFlast t,
        (fdcEvents c t.toNat (2 * t.toNat + 2) x.1.flast.toNat (seekPoll t x.1, x.2)).2) := rfl
  rw [hx]
  generalize fdcEvents c t.toNat (2 * t.toNat + 2) x.1.flast.toNat (seekPoll t x.1, x.2) = y at hsettled hdue ⊢
  have hpoll : seekPoll t (y.1.setFlast t) = y.1.setFlast t := seekPoll_of_not_due hdue
  have hevents := hsettled.fdcEvents (2 * t.toNat + 2) y.2
  simp only [fdcPeriodic, hpoll, show (y.1.setFlast t).flast = t from rfl, fdcEvents_setFlast, hevents]
  rfl

/-! ### Numbered devices -/

/-- A value put at its key twice. -/
theorem NatMap.put_put_same (m : NatMap) (a v : Nat) : (m.put a v).put a v = m.put a v := by
  induction m with
  | nil => simp [NatMap.put]
  | cons e m ih =>
    obtain ⟨b, w⟩ := e
    by_cases hlt : a < b
    · simp [NatMap.put, hlt]
    · by_cases heq : a = b
      · simp [NatMap.put, heq]
      · simp [NatMap.put, hlt, heq, ih]

/-- A value that stands at its key stands there still once another key has taken one: here in any map, sorted or not. -/
theorem NatMap.put_put_of_put_eq {m : NatMap} {a b v w : Nat} (h : m.put a v = m) (hab : a ≠ b) :
    (m.put b w).put a v = m.put b w := by
  induction m with
  | nil => cases h
  | cons e m ih =>
    obtain ⟨x, y⟩ := e
    obtain hlt | rfl | hgt := Nat.lt_trichotomy a x
    · simp only [NatMap.put, hlt, if_true, List.cons.injEq, Prod.mk.injEq] at h
      omega
    · simp only [NatMap.put, Nat.lt_irrefl, if_true, if_false, List.cons.injEq, Prod.mk.injEq, and_true, true_and] at h
      subst h
      obtain hb | hb := Nat.lt_or_gt_of_ne hab <;>
        simp [NatMap.put, hb, Nat.not_lt_of_gt hb, hab, hab.symm]
    · simp only [NatMap.put, Nat.not_lt_of_gt hgt, hgt.ne', if_false, List.cons.injEq, true_and] at h
      obtain hb | rfl | hb := Nat.lt_trichotomy b x
      · simp [NatMap.put, hb, Nat.not_lt_of_gt (hb.trans hgt), hab, Nat.not_lt_of_gt hgt, hgt.ne', h]
      · simp [NatMap.put, Nat.not_lt_of_gt hgt, hgt.ne', h]
      · simp [NatMap.put, Nat.not_lt_of_gt hb, hb.ne', Nat.not_lt_of_gt hgt, hgt.ne', ih h]

/-! ### A callback that has nothing left to do -/

/-- The callback of a peripheral at tick t leaves its state as it is. -/
def State.Settled (c : Cfg) (t : Tick) (s : State) : Option Periph → Prop
  | none => True
  | some .fdc => fdcPeriodic c t (s.fdc, s.draws) = (s.fdc, s.draws)
  | some (.dev .xsnd6) => chipAdvance c .xsnd6 t s.xsnd6 = s.xsnd6
  | some (.dev .xsnd4) => chipAdvance c .xsnd4 t s.xsnd4 = s.xsnd4
  | some (.dev (.other n)) => s.others.put n (c.periodic n (s.core c (.other n)) t) = s.others

/-- Such a callback changes nothing. -/
theorem State.Settled.periphPeriodic_eq {c : Cfg} {t : Tick} {s : State} {p : Option Periph} (h : s.Settled c t p) :
    periphPeriodic c t p s = s := by
  match p with
  | none => rfl
  | some .fdc =>
    have h : fdcPeriodic c t (s.fdc, s.draws) = (s.fdc, s.draws) := h
    simp only [periphPeriodic, State.fdcCallback, h]
    rfl
  | some (.dev .xsnd6) => exact congrArg s.setXsnd6 h
  | some (.dev .xsnd4) => exact congrArg s.setXsnd4 h
  | some (.dev (.other n)) => exact congrArg s.setOthers h

/-- A callback leaves the peripheral with nothing to do at that tick (R410). -/
theorem settled_periphPeriodic (c : Cfg) (t : Tick) (p : Option Periph) (s : State) :
    (periphPeriodic c t p s).Settled c t p := by
  match p with
  | none => trivial
  | some .fdc => exact fdcPeriodic_fdcPeriodic c t (s.fdc, s.draws)
  | some (.dev .xsnd6) => exact chipAdvance_absorb c .xsnd6 (Nat.le_refl _) s.xsnd6
  | some (.dev .xsnd4) => exact chipAdvance_absorb c .xsnd4 (Nat.le_refl _) s.xsnd4
  | some (.dev (.other n)) =>
    have hcore : (periphPeriodic c t (some (.dev (.other n))) s).core c (.other n) =
        c.periodic n (s.core c (.other n)) t := by
      simp only [periphPeriodic, devPeriodic, State.setCore, State.core, State.setOthers_others, NatMap.find_put_same,
        Option.getD_some]
    rw [State.Settled, hcore, periodic_periodic]
    exact NatMap.put_put_same _ _ _

/-- A callback gives no other peripheral anything to do: each has a state of its own (R401). -/
theorem State.Settled.periphPeriodic {c : Cfg} {t : Tick} {s : State} {q : Option Periph} (h : s.Settled c t q)
    (p : Option Periph) : (periphPeriodic c t p s).Settled c t q := by
  by_cases hpq : p = q
  · exact hpq ▸ settled_periphPeriodic c t p s
  · match p, q with
    | _, none => trivial
    | none, _ => exact h
    | some .fdc, some (.dev .xsnd6) | some .fdc, some (.dev .xsnd4) | some .fdc, some (.dev (.other _)) => exact h
    | some (.dev .xsnd6), some .fdc | some (.dev .xsnd4), some .fdc | some (.dev (.other _)), some .fdc => exact h
    | some (.dev .xsnd6), some (.dev .xsnd4) | some (.dev .xsnd4), some (.dev .xsnd6) => exact h
    | some (.dev .xsnd6), some (.dev (.other _)) | some (.dev .xsnd4), some (.dev (.other _)) => exact h
    | some (.dev (.other _)), some (.dev .xsnd6) | some (.dev (.other _)), some (.dev .xsnd4) => exact h
    | some (.dev (.other n)), some (.dev (.other m)) =>
      have hmn : m ≠ n := fun hmn => hpq (by rw [hmn])
      have hcore : (Machine.periphPeriodic c t (some (.dev (.other n))) s).core c (.other m) = s.core c (.other m) := by
        simp only [Machine.periphPeriodic, devPeriodic, State.setCore, State.core, State.setOthers_others,
          NatMap.find_put_other _ _ hmn]
      rw [State.Settled, hcore]
      exact NatMap.put_put_of_put_eq h hmn
    | some .fdc, some .fdc | some (.dev .xsnd6), some (.dev .xsnd6) | some (.dev .xsnd4), some (.dev .xsnd4) =>
      exact absurd rfl hpq

/-! ### All callbacks -/

/-- The callbacks of several peripherals, in order. -/
def callbacks (c : Cfg) (t : Tick) (l : List (Option Periph)) (s : State) : State :=
  l.foldl (fun u p => periphPeriodic c t p u) s

/-- Callbacks leave each of their peripherals with nothing to do. -/
theorem settled_callbacks (c : Cfg) (t : Tick) {l : List (Option Periph)} {p : Option Periph} (h : p ∈ l) (s : State) :
    (callbacks c t l s).Settled c t p := by
  have hkeep (m : List (Option Periph)) (u : State) (hu : u.Settled c t p) : (callbacks c t m u).Settled c t p := by
    induction m generalizing u with
    | nil => exact hu
    | cons q m ih => exact ih _ (hu.periphPeriodic q)
  induction l generalizing s with
  | nil => cases h
  | cons q l ih =>
    obtain rfl | h := List.mem_cons.1 h
    · exact hkeep l _ (settled_periphPeriodic c t p s)
    · exact ih h _

/-- Callbacks of peripherals with nothing to do change nothing. -/
theorem callbacks_of_settled (c : Cfg) (t : Tick) {l : List (Option Periph)} {s : State}
    (h : ∀ p ∈ l, s.Settled c t p) : callbacks c t l s = s := by
  induction l with
  | nil => rfl
  | cons p l ih =>
    rw [callbacks, List.foldl_cons, (h p (.head _)).periphPeriodic_eq]
    exact ih fun q hq => h q (.tail _ hq)

/-- PERIODIC runs the callbacks of the four slots and of the socket. -/
theorem periodicAll_eq_callbacks (c : Cfg) (t : Tick) (s : State) :
    periodicAll c t s = callbacks c t [s.card.get 0, s.card.get 1, s.card.get 2, s.card.get 3, s.cart] s :=
  periodicAll_eq_foldl c t s

/-- The callbacks change the chips, the FDC, the numbered devices and the draws only (R410, log 44). -/
theorem periodicAll_frame (c : Cfg) (t : Tick) (s : State) :
    periodicAll c t s =
      { s with
        xsnd6 := (periodicAll c t s).xsnd6, xsnd4 := (periodicAll c t s).xsnd4, fdc := (periodicAll c t s).fdc
        others := (periodicAll c t s).others, draws := (periodicAll c t s).draws } := by
  refine periodicAll_keeps (P := fun u => u =
    { s with xsnd6 := u.xsnd6, xsnd4 := u.xsnd4, fdc := u.fdc, others := u.others, draws := u.draws }) c t
    (fun u hu => ?_) (fun d u hu => ?_) s rfl
  · rw [State.fdcCallback_frame, hu]
  · rw [devPeriodic_frame, hu]

/-- Without the FDC among them the callbacks leave it and the draws. -/
theorem callbacks_fdc (c : Cfg) (t : Tick) {l : List (Option Periph)} (h : some .fdc ∉ l) (s : State) :
    (callbacks c t l s).fdc = s.fdc ∧ (callbacks c t l s).draws = s.draws := by
  induction l generalizing s with
  | nil => exact ⟨rfl, rfl⟩
  | cons p l ih =>
    obtain ⟨hp, hl⟩ := not_or.1 (List.mem_cons.not.1 h)
    obtain ⟨hfdc, hdraws⟩ := ih hl (periphPeriodic c t p s)
    have hown : (periphPeriodic c t p s).fdc = s.fdc ∧ (periphPeriodic c t p s).draws = s.draws := by
      match p with
      | none => exact ⟨rfl, rfl⟩
      | some .fdc => exact absurd rfl hp
      | some (.dev d) =>
        simp only [periphPeriodic]
        rw [devPeriodic_frame]
        exact ⟨rfl, rfl⟩
    exact ⟨hfdc.trans hown.1, hdraws.trans hown.2⟩

/-! ### PERIODIC -/

theorem exec_periodic (t : Tick) (s : State) :
    exec (.periodic t) s = .next ((periodicOp Config.cfg t s).setResult .none) := rfl

theorem State.periodicInOrder_iff {t : Tick} {s : State} :
    s.periodicInOrder t = true ↔ t = s.now ∧ s.lastPeriodic.toNat ≤ t.toNat := by
  rw [State.periodicInOrder, Bool.and_eq_true, decide_eq_true_eq, decide_eq_true_eq]

/-- A second sound catch-up to the same tick does nothing. -/
theorem soundCatchUp_eq_self (c : Cfg) {t : Tick} {s u : State} (hsound : u.sound = (s.soundCatchUp c t).sound)
    (hff : u.intFF = (s.soundCatchUp c t).intFF) : u.soundCatchUp c t = u := by
  have h : soundAdvance c t (u.sound, u.intFF) = (u.sound, u.intFF) := by
    rw [hsound, hff]
    exact soundAdvance_absorb c (Nat.le_refl _) (s.sound, s.intFF)
  simp only [State.soundCatchUp, h]
  rfl

/-- The callbacks leave every peripheral on the backplane with nothing to do at that tick. -/
theorem settled_periodicAll (c : Cfg) (t : Tick) (s : State) :
    ∀ p ∈ [s.card.get 0, s.card.get 1, s.card.get 2, s.card.get 3, s.cart], (periodicAll c t s).Settled c t p :=
  fun p hp => by rw [periodicAll_eq_callbacks]; exact settled_callbacks c t hp s

/-- The answer of an operation is no peripheral's. -/
theorem State.Settled.setResult {c : Cfg} {t : Tick} {s : State} {p : Option Periph} (h : s.Settled c t p)
    (a : Answer) : (s.setResult a).Settled c t p := by
  match p with
  | none | some .fdc | some (.dev .xsnd6) | some (.dev .xsnd4) | some (.dev (.other _)) => exact h

/-- A second PERIODIC at the same tick changes nothing (R410). -/
theorem periodicOp_of_done (c : Cfg) {t : Tick} {s u : State} {a : Answer} (h : s.periodicInOrder t = true)
    (hu : u = (periodicAll c t ((s.soundCatchUp c t).setLastPeriodic t)).setResult a) : periodicOp c t u = u := by
  have hframe := periodicAll_frame c t ((s.soundCatchUp c t).setLastPeriodic t)
  have hsettled := settled_periodicAll c t ((s.soundCatchUp c t).setLastPeriodic t)
  generalize periodicAll c t ((s.soundCatchUp c t).setLastPeriodic t) = v at hu hframe hsettled
  subst hu
  have hcard : v.card = s.card := by rw [hframe]; rfl
  have hcart : v.cart = s.cart := by rw [hframe]; rfl
  have hnow : v.now = s.now := by rw [hframe]; rfl
  have hlast : v.lastPeriodic = t := by rw [hframe]; rfl
  have hin : (v.setResult a).periodicInOrder t = true :=
    State.periodicInOrder_iff.2 ⟨(State.periodicInOrder_iff.1 h).1.trans hnow.symm, (congrArg _ hlast).le⟩
  have hsound : (v.setResult a).soundCatchUp c t = v.setResult a :=
    soundCatchUp_eq_self c (s := s) (by rw [hframe]; rfl) (by rw [hframe]; rfl)
  have hset : (v.setResult a).setLastPeriodic t = v.setResult a := by rw [← hlast]; rfl
  rw [periodicOp, if_pos hin, hsound, hset, periodicAll_eq_callbacks, State.setResult_card, State.setResult_cart, hcard,
    hcart]
  exact callbacks_of_settled c t fun p hp => (hsettled p hp).setResult a

/-- Settles O58: the callbacks are those of `periodicAll`, whose frame is known, and each leaves its peripheral with
nothing more to do at that tick. -/
theorem periodicEffect : Obligations.PeriodicEffect := by
  refine ⟨fun t s h => ?_, fun t s hnow hlast => ?_⟩
  · rw [exec_periodic, periodicOp, if_neg (State.periodicInOrder_iff.not.2 h)]
  · intro callback caught cards
    have hin : s.periodicInOrder t = true := State.periodicInOrder_iff.2 ⟨hnow, hlast⟩
    have hop : periodicOp Config.cfg t s = periodicAll Config.cfg t caught := if_pos hin
    have hcallback : callback = periphPeriodic Config.cfg t := by
      funext p x
      match p with
      | none | some .fdc | some (.dev .xsnd6) | some (.dev .xsnd4) | some (.dev (.other n)) => rfl
    refine ⟨(periodicAll Config.cfg t caught).setResult .none, ?_, ?_, ?_, fun hcard hcart => ?_, fun hcard hcart => ?_,
      ?_⟩
    · rw [exec_periodic, hop]
    · simp only [cards, hcallback, periodicAll_eq_foldl]
      rfl
    · rw [periodicAll_frame]
      rfl
    · have hnot : some .fdc ∉ [s.card.get 0, s.card.get 1, s.card.get 2, s.card.get 3, s.cart] := by
        simp [Ne.symm (hcard _), Ne.symm hcart]
      rw [periodicAll_eq_callbacks]
      exact callbacks_fdc Config.cfg t hnot caught
    · have hnone : ∀ p ∈ [s.card.get 0, s.card.get 1, s.card.get 2, s.card.get 3, s.cart],
          caught.Settled Config.cfg t p := by
        simp only [hcard, hcart, List.forall_mem_cons]
        exact ⟨trivial, trivial, trivial, trivial, trivial, nofun⟩
      rw [periodicAll_eq_callbacks]
      exact congrArg (State.setResult · .none) (callbacks_of_settled Config.cfg t hnone)
    · rw [exec_periodic, periodicOp_of_done Config.cfg hin rfl]
      rfl

end Sys2Proof.Machine
end

section
/-! PROOF. The card windows: their rows are port transactions (46_backplane.md R406, 30_encoding.md R143). -/

namespace Sys2Proof.Machine

/-! ### Rows -/

/-- A card window's read row is a port read (R406). -/
theorem exec_inCardwin (w : Fin 4) (k : Fin 16) (hi : Byte) (s : State) :
    exec (.inCardwin w k hi) s =
      .next ((portRead Config.cfg (hi ++ cardSlot w k) s).2.setResult
        (.byte (portRead Config.cfg (hi ++ cardSlot w k) s).1)) := rfl

/-- A card window's write row is a port write (R406). -/
theorem exec_outCardwin (w : Fin 4) (k : Fin 16) (hi v : Byte) (s : State) :
    exec (.outCardwin w k hi v) s = .next ((portWrite Config.cfg (hi ++ cardSlot w k) v s).setResult .none) := rfl

/-- Settles O29: each row is the port transaction at the window's slot, with the full address. -/
theorem cardWindowPorts : Obligations.CardWindowPorts :=
  fun w k hi v s => ⟨exec_inCardwin w k hi s, exec_outCardwin w k hi v s⟩

end Sys2Proof.Machine
end

section
/-! PROOF. Timing: milliseconds and ticks, the index edges, the operations of the tick facade (47_timing.md R430 to R437),
and the steps that run no operation (70_reset_and_hazards.md R515, R516). -/

namespace Sys2Proof.Machine

/-! ### Milliseconds to ticks and back -/

/-- Rounding down twice gains nothing (R433). -/
theorem ticksToMs_msToTicks_le (c : Cfg) (n : Nat) : ticksToMs c (msToTicks c n) ≤ n := by
  have hticks : n * c.clockHz / 1000 * 1000 ≤ n * c.clockHz := Nat.div_mul_le_self _ _
  exact Nat.div_le_of_le_mul (by rwa [Nat.mul_comm c.clockHz])

/-- On a clock of whole kilohertz neither rounding drops anything (R433). -/
theorem ticksToMs_msToTicks (c : Cfg) (n : Nat) (h : c.clockHz % 1000 = 0) : ticksToMs c (msToTicks c n) = n := by
  have hdvd : 1000 ∣ n * c.clockHz := (Nat.dvd_of_mod_eq_zero h).mul_left n
  rw [ticksToMs, msToTicks, Nat.div_mul_cancel hdvd]
  exact Nat.mul_div_cancel n (Nat.succ_pos c.clockHzPred)

/-! ### The index pulse -/

/-- The pulse is low for at least one tick of each period (R436). -/
theorem indexWidth_lt_indexPeriod (c : Cfg) : c.indexWidth < c.indexPeriod := by
  simp only [Cfg.indexPeriod]; omega

/-- An edge is a multiple of the period (R437). -/
theorem nextEdge_mod (c : Cfg) (n : Nat) : nextEdge c n % c.indexPeriod = 0 := Nat.mul_mod_left _ _

/-- The tick before an edge is the last one of a period. -/
theorem nextEdge_pred_mod (c : Cfg) (n : Nat) : (nextEdge c n - 1) % c.indexPeriod = c.indexPeriod - 1 := by
  have hwidth := indexWidth_lt_indexPeriod c
  have hsplit : nextEdge c n - 1 = c.indexPeriod - 1 + n / c.indexPeriod * c.indexPeriod := by
    rw [nextEdge, Nat.succ_mul]; omega
  rw [hsplit, Nat.add_mul_mod_self_right, Nat.mod_eq_of_lt (by omega)]

/-- No multiple of the period lies between a tick and its next edge (R437). -/
theorem nextEdge_le (c : Cfg) {n m : Nat} (hn : n < m) (hm : m % c.indexPeriod = 0) : nextEdge c n ≤ m := by
  obtain ⟨k, rfl⟩ := Nat.dvd_of_mod_eq_zero hm
  rw [nextEdge, Nat.mul_comm]
  exact Nat.mul_le_mul_left _ (Nat.div_lt_of_lt_mul hn)

/-- The level at a tick that the counter can show (R436). -/
theorem indexLevel_ofNat (c : Cfg) {t : Nat} (h : t < 2 ^ 64) :
    indexLevel c (BitVec.ofNat 64 t) = decide (t % c.indexPeriod < c.indexWidth) := by
  rw [indexLevel, BitVec.toNat_ofNat, Nat.mod_eq_of_lt h]

/-- The pulse rises at an edge (R437): it is high there. -/
theorem indexLevel_nextEdge (c : Cfg) {n : Nat} (h : nextEdge c n < 2 ^ 64) :
    indexLevel c (BitVec.ofNat 64 (nextEdge c n)) = true := by
  rw [indexLevel_ofNat c h, nextEdge_mod]
  exact decide_eq_true (Nat.succ_pos c.fdc.indexWidthPred)

/-- The pulse rises at an edge (R437): it is low just before. -/
theorem indexLevel_nextEdge_pred (c : Cfg) {n : Nat} (h : nextEdge c n < 2 ^ 64) :
    indexLevel c (BitVec.ofNat 64 (nextEdge c n - 1)) = false := by
  have hwidth := indexWidth_lt_indexPeriod c
  rw [indexLevel_ofNat c (by omega), nextEdge_pred_mod]
  exact decide_eq_false (by omega)

/-- Settles O60: the round trip is two roundings down, and the next edge is the least multiple of the period past its
tick. -/
theorem ticksAndEdges : Obligations.TicksAndEdges := fun c n =>
  ⟨ticksToMs_msToTicks_le c n, ticksToMs_msToTicks c n, lt_nextEdge c n, nextEdge_mod c n, fun _ => nextEdge_le c,
    fun h => ⟨indexLevel_nextEdge c h, indexLevel_nextEdge_pred c h⟩⟩

/-! ### Steps that run no operation -/

/-- A call with an earlier tick is not in time (R515). -/
theorem Call.inTime_of_lt {k : Call} {s : State} (h : k.now.toNat < s.now.toNat) : k.inTime s = false :=
  decide_eq_false (Nat.not_le_of_lt h)

/-- Bytes that do not decode are no operation (log 1). -/
theorem Call.operation_of_error {k : Call} {e : DecodeError} (h : decode k.bytes = .error e) :
    k.operation = .error (.undecodable e) := by simp only [Call.operation, h]

/-- Settles O6: no call, a call out of time, and a call in time whose bytes do not decode. -/
theorem stepWithoutOperation : Obligations.StepWithoutOperation := by
  refine ⟨fun s hc => ?_, fun s k rest hc ht => ?_, fun s k rest e hc ht hd => ?_⟩
  · simp only [step, hc]
  · simp only [step, hc, Call.inTime_of_lt ht]
    rfl
  · have hin : k.inTime s = true := decide_eq_true ht
    simp only [step, hc, hin, Call.operation_of_error hd, if_true]

/-! ### The operations of the tick facade -/

/-- MSTOTICKS answers the conversion (R430). -/
theorem exec_mstoticks (n : Nat) (s : State) :
    exec (.mstoticks n) s = .next (s.setResult (.number (msToTicks Config.cfg n))) := rfl

/-- USTOTICKS answers the conversion (R431). -/
theorem exec_ustoticks (n : Nat) (s : State) :
    exec (.ustoticks n) s = .next (s.setResult (.number (usToTicks Config.cfg n))) := rfl

/-- TICKSTOMS answers the conversion (R433). -/
theorem exec_tickstoms (n : Nat) (s : State) :
    exec (.tickstoms n) s = .next (s.setResult (.number (ticksToMs Config.cfg n))) := rfl

/-- GETTICKS answers the counter (R432). -/
theorem exec_getticks (s : State) : exec .getticks s = .next (s.setResult (.tick s.now)) := rfl

/-- TICKSSINCE answers the ticks since its operand (R434). -/
theorem exec_tickssince (t : Tick) (s : State) :
    exec (.tickssince t) s = .next (s.setResult (.tick (ticksSince s.now t))) := rfl

/-- The difference of words is the difference of integers modulo 2^64 (R434). -/
theorem ticksSince_eq_ofInt (now start : Tick) :
    ticksSince now start = BitVec.ofInt 64 ((now.toNat : Int) - start.toNat) := by
  apply BitVec.eq_of_toNat_eq
  rw [ticksSince, BitVec.toNat_sub, BitVec.toNat_ofInt]
  have hstart := start.isLt
  omega

/-- Settles O59: each conversion is its floor by definition, and only the difference of ticks is an argument. -/
theorem conversions : Obligations.Conversions := fun n t s =>
  ⟨exec_mstoticks n s, exec_ustoticks n s, exec_tickstoms n s, exec_getticks s,
    (exec_tickssince t s).trans (by rw [ticksSince_eq_ofInt])⟩

end Sys2Proof.Machine
end

section
/-! PROOF. What sets and what clears the interrupt flip-flop (60_exceptions.md R456, R458): a relation over a state and a
later one, kept by the port chains, then one case per effect of a row. -/

namespace Sys2Proof.Machine

/-! ### The flip-flop from one state to a later one -/

/-- From s to t the flip-flop became set only if `set` holds, and became clear only if `clear` does. -/
def State.FlipFlopBy (set clear : Prop) (s t : State) : Prop :=
  (s.intFF = false → t.intFF = true → set) ∧ (s.intFF = true → t.intFF = false → clear)

/-- A state with the same flip-flop. -/
theorem State.FlipFlopBy.of_eq {set clear : Prop} {s t : State} (h : t.intFF = s.intFF) : s.FlipFlopBy set clear t :=
  ⟨fun hs ht => by simp [h, hs] at ht, fun hs ht => by simp [h, hs] at ht⟩

/-- A state in which a set flip-flop stayed set. -/
theorem State.FlipFlopBy.of_set {set clear : Prop} {s t : State} (hset : set) (h : s.intFF = true → t.intFF = true) :
    s.FlipFlopBy set clear t :=
  ⟨fun _ _ => hset, fun hs ht => by simp [h hs] at ht⟩

theorem State.FlipFlopBy.trans {set clear : Prop} {s t u : State} (h : s.FlipFlopBy set clear t)
    (k : t.FlipFlopBy set clear u) : s.FlipFlopBy set clear u := by
  obtain ⟨hset, hclear⟩ := h
  obtain ⟨kset, kclear⟩ := k
  cases ht : t.intFF with
  | false => exact ⟨fun _ => kset ht, fun hs _ => hclear hs ht⟩
  | true => exact ⟨fun hs _ => hset hs ht, fun _ => kclear ht⟩

theorem State.FlipFlopBy.mono {set clear set' clear' : Prop} {s t : State} (h : s.FlipFlopBy set clear t)
    (hset : set → set') (hclear : clear → clear') : s.FlipFlopBy set' clear' t :=
  ⟨fun hs ht => hset (h.1 hs ht), fun hs ht => hclear (h.2 hs ht)⟩

/-! ### Handlers -/

/-- A reader sets the flip-flop only if it is the interrupt status's, and none clears it. -/
theorem runReader_flipFlopBy (c : Cfg) (h : Reader) (a : Word) (v : Byte) (s : State) :
    s.FlipFlopBy (h = .intStat) False (runReader c h a v s).2 := by
  cases h with
  | intStat => exact .of_set rfl (s.soundCatchUp_flipFlop c s.now)
  | dev d => simp only [runReader]; rw [devPortRead_frame]; exact .of_eq rfl
  | crtcData =>
    simp only [runReader, crtcDataRead]
    split
    · split <;> exact .of_eq rfl
    · exact .of_eq rfl
  | _ => exact .of_eq rfl

/-- The writers of the built-in generator's registers (44_sound.md R296 to R298). -/
def soundWriter (h : Writer) : Prop := h = .sndFreqL ∨ h = .sndFreqH ∨ h = .sndVol

/-- A writer sets the flip-flop only if it is a sound register's, and clears it only if it is the interrupt clear's,
which leaves it clear after its own catch-up. -/
theorem runWriter_flipFlopBy (c : Cfg) (h : Writer) (a : Word) (v : Byte) (s : State) :
    s.FlipFlopBy (soundWriter h) (h = .intClr) (runWriter c h a v s) := by
  have hcatch := s.soundCatchUp_flipFlop c s.now
  cases h with
  | sndFreqL => exact .of_set (.inl rfl) hcatch
  | sndFreqH => exact .of_set (.inr (.inl rfl)) hcatch
  | sndVol => exact .of_set (.inr (.inr rfl)) hcatch
  | intClr => exact ⟨fun _ ht => (Bool.false_ne_true ht).elim, fun _ _ => rfl⟩
  | dev d => simp only [runWriter]; rw [devPortWrite_frame]; exact .of_eq rfl
  | crtcData => simp only [runWriter, crtcDataWrite]; split <;> exact .of_eq rfl
  | page3 => simp only [runWriter, page3Write]; split <;> exact .of_eq rfl
  | fdcCmd => simp only [runWriter]; rw [runCommand_frame]; exact .of_eq rfl
  | _ => exact .of_eq rfl

/-! ### Port transactions -/

/-- A port read sets the flip-flop only where the interrupt status's reader stands in its slot. -/
theorem portRead_flipFlopBy (c : Cfg) (a : Word) (s : State) :
    s.FlipFlopBy (s.reads a .intStat) False (portRead c a s).2 :=
  readChain_keeps c a _
    (fun e he v u hu => hu.trans ((runReader_flipFlopBy c e.handler a v u).mono (fun hr => ⟨e, he, hr⟩) id)) _
    (.of_eq rfl)

/-- A port write sets or clears the flip-flop only where a handler that does stands in its slot. -/
theorem portWrite_flipFlopBy (c : Cfg) (a : Word) (v : Byte) (s : State) :
    s.FlipFlopBy (s.writes a .sndFreqL ∨ s.writes a .sndFreqH ∨ s.writes a .sndVol) (s.writes a .intClr)
      (portWrite c a v s) := by
  refine writeChain_keeps c a v _ (fun e he u hu => hu.trans ?_) s (.of_eq rfl)
  have stands {h : Writer} (hh : e.handler = h) : s.writes a h := ⟨e, he, hh⟩
  exact (runWriter_flipFlopBy c e.handler a v u).mono (Or.imp stands (Or.imp stands stands)) stands

/-! ### RENDERLINE, RENDER, PERIODIC and the resets -/

/-- A painted line does not clear the flip-flop: a cursor match only sets it (43_video.md R268). -/
theorem paintLine_flipFlop (c : Cfg) {s : State} (h : s.intFF = true) : (paintLine c s).intFF = true := by
  cases hv : crtcValid c s.video with
  | false => rw [paintLine_of_noise hv]; exact h
  | true =>
    by_cases hw : inWindow c s.video = true
    · rw [paintLine_of_displayed hv hw]
      exact Bool.or_eq_true_iff.2 (.inl h)
    · rw [paintLine_of_border hv hw]
      exact h

/-- RENDERLINE does not clear the flip-flop: the line index moving on leaves it. -/
theorem renderLine_flipFlop (c : Cfg) {s : State} (h : s.intFF = true) : (renderLine c s).intFF = true := by
  rw [renderLine_eq, advanceLine_frame]
  exact paintLine_flipFlop c h

/-- RENDER changes the flip-flop for the built-in generator only, by its catch-up. -/
theorem rendered_flipFlopBy (c : Cfg) (g : Gen) (buf : List (Int × Int)) (b e : Nat) (s : State) :
    s.FlipFlopBy (g = .builtin) False (rendered c g buf b e s) := by
  cases g with
  | builtin => exact .of_set rfl (s.soundCatchUp_flipFlop c _)
  | xsnd6 | xsnd4 => exact .of_eq rfl

/-- PERIODIC does not clear the flip-flop, and no peripheral's callback touches it. -/
theorem periodicOp_flipFlop (c : Cfg) (t : Tick) {s : State} (h : s.intFF = true) : (periodicOp c t s).intFF = true := by
  unfold periodicOp
  split
  · exact periodicAll_keeps (P := fun u => u.intFF = true) c t (fun _ hu => hu)
      (fun d u hu => by rw [devPeriodic_frame]; exact hu) _ (s.soundCatchUp_flipFlop c t h)
  · exact h

/-- BUSRESET leaves the flip-flop (70_reset_and_hazards.md R492). -/
theorem busReset_intFF (c : Cfg) (s : State) : (busReset c s).intFF = s.intFF := by
  obtain ⟨⟨hf, _⟩, _⟩ := busReset_resetTo c s
  rw [hf]
  rfl

/-- RESET leaves the flip-flop. -/
theorem machineReset_intFF (c : Cfg) (s : State) : (machineReset c s).intFF = s.intFF := by
  unfold machineReset
  rw [cartReset_frame]
  exact busReset_intFF c s

/-! ### Rows -/

/-- Every effect of a row sets or clears the flip-flop only where the spec lets the row do so. -/
theorem Effect.flipFlopBy {c : Cfg} {i : Instr} {s t : State} (h : Effect c i s t) :
    s.FlipFlopBy (maySetInt s i) (mayClearInt s i) t := by
  cases h with
  | readsOnly _ | register _ _ _ | renderRefused _ _ _ _ _ _ => exact .of_eq rfl
  | memRead a => rw [memRead_frame]; exact .of_eq rfl
  | memWrite a v => rw [memWrite_frame]; exact .of_eq rfl
  | debugWrite d pg o v => rw [debugWrite_frame]; exact .of_eq rfl
  | portRead a _ hi => exact (portRead_flipFlopBy c a s).mono (fun hr => .inr (.inl ⟨a, hi, hr⟩)) False.elim
  | portWrite a v _ hi =>
    exact (portWrite_flipFlopBy c a v s).mono (fun hw => .inr (.inr ⟨a, v, hi, hw⟩)) fun hw => .inr ⟨a, v, hi, hw⟩
  | reader h _ hi =>
    refine (runReader_flipFlopBy c h 0#16 0#8 s).mono (fun hr => ?_) False.elim
    subst hr
    cases hi
    exact .inl trivial
  | writer h v _ hi =>
    refine (runWriter_flipFlopBy c h 0#16 v s).mono (fun hw => ?_) fun hw => ?_
    · obtain rfl | rfl | rfl := hw <;> cases hi <;> exact .inl trivial
    · subst hw
      cases hi
      exact .inl ⟨v, rfl⟩
  | page3 v =>
    exact (runWriter_flipFlopBy c .page3 0#16 v s).mono (fun hw => by obtain hw | hw | hw := hw <;> cases hw) nofun
  | command k => rw [runCommand_frame]; exact .of_eq rfl
  | busReset => exact .of_eq (busReset_intFF c s)
  | machineReset => exact .of_eq (machineReset_intFF c s)
  | renderLine => exact .of_set (.inl trivial) (renderLine_flipFlop c)
  | render g buf b e =>
    exact (rendered_flipFlopBy c g buf b e s).mono (fun hg => by subst hg; exact .inl trivial) False.elim
  | periodic t => exact .of_set (.inl trivial) (periodicOp_flipFlop c t)
  | install k p => rw [installOp_frame]; exact .of_eq rfl
  | remove k => rw [removeOp_frame]; exact .of_eq rfl

/-- Settles O13: each effect leaves the flip-flop but through the sound catch-up, a cursor match, and the interrupt
clear. -/
theorem flipFlopSources : Obligations.FlipFlopSources := by
  intro i s t h
  obtain ⟨u, x, hu, rfl⟩ := exec_next h
  exact hu.flipFlopBy

end Sys2Proof.Machine
end

section
/-! PROOF. No operation stops the block (60_exceptions.md R450). -/

namespace Sys2Proof.Machine

/-- Settles O10: every row of the dispatch answers the state its effect leads to. -/
theorem nothingStops : Obligations.NothingStops := by
  intro i s
  obtain ⟨u, x, _, he⟩ := exec_effect i s
  exact ⟨u.setResult x, he⟩

end Sys2Proof.Machine
end

section
/-! PROOF. The paging after a reset and at power-on (70_reset_and_hazards.md R491, R492, 42_system_ports.md R220). -/

namespace Sys2Proof.Machine

/-! ### The latches at zero -/

/-- At zero latches page 0 shows `SYS` (20_memory.md R86 (c)). -/
theorem decodePages_zero_get (c : Cfg) : (decodePages c 0#8 0#8 0#8).get 0 = .sys := by
  simpa [decodePages, Vector.get_eq_getElem] using decodePage_sys c 0#8 0#8

/-- Zero latches turn the tape motor off (10_state.md R72). -/
theorem rebind_zero (c : Cfg) :
    rebind c 0#8 0#8 0#8 =
      { port02 := 0#8, port03 := 0#8, pagePort3 := 0#8, bind := decodePages c 0#8 0#8 0#8, tapeMotor := false } := by
  rw [rebind, BitVec.getLsbD_zero]

/-! ### Resets with the mapper's handler -/

/-- A chain with the mapper's reset handler in it zeroes the latches; the handlers after it leave them so. -/
theorem resetChain_paging (c : Cfg) {o : Owner} {l : List (Entry Resetter)} (h : ⟨o, .mapper⟩ ∈ l) (s : State) :
    (resetChain c l s).paging = rebind c 0#8 0#8 0#8 := by
  obtain ⟨l, m, rfl⟩ := List.append_of_mem h
  rw [resetChain_append]
  refine resetChain_keeps (P := fun u => u.paging = rebind c 0#8 0#8 0#8) c m (fun e _ u hu => ?_) _ rfl
  by_cases hm : e.handler = .mapper
  · rw [hm]; rfl
  · exact (runReset_paging c u hm).trans hu

/-- The Reset of what is in the cartridge socket leaves the paging. -/
theorem cartReset_paging (c : Cfg) (s : State) : (cartReset c s).paging = s.paging := by rw [cartReset_frame]

/-- MEMRD of 0x0000 answers the first byte of the system ROM while page 0 shows `SYS`. -/
theorem exec_memrd_zero {s : State} (h : s.tagOf 0x0000#16 = .sys) :
    exec (.memrd 0x0000#16) s = .next (s.setResult (.byte ((s.sysRom[0]?).getD 0xFF#8))) := by
  obtain ⟨hexec, hsys, _⟩ := memrdAnswers
  rw [hexec, hsys _ _ _ h]
  rfl

/-- Settles O31: the mapper's handler is in the chain that both resets run, and nothing after it rebinds the pages or
writes a ROM. -/
theorem resetPaging : Obligations.ResetPaging := by
  intro s p o h i hi
  have hbus : (busReset Config.cfg s).paging = rebind Config.cfg 0#8 0#8 0#8 :=
    resetChain_paging _ (mem_resets_of_at h) s
  have hu : ∃ u : State, exec i s = .next (u.setResult .none) ∧ u.paging = rebind Config.cfg 0#8 0#8 0#8 := by
    simp only [List.mem_cons, List.not_mem_nil, or_false] at hi
    obtain rfl | rfl := hi
    · exact ⟨_, exec_busreset s, hbus⟩
    · exact ⟨_, exec_reset s, (cartReset_paging _ _).trans hbus⟩
  obtain ⟨u, he, hpaging⟩ := hu
  obtain ⟨hrom, _⟩ := execKeepsInputs i s _ he
  have htag : (u.setResult .none).tagOf 0x0000#16 = .sys := by
    change u.paging.bind.get 0 = .sys
    rw [hpaging]
    exact decodePages_zero_get _
  exact ⟨_, he, hpaging.trans (rebind_zero _), htag, hrom ▸ exec_memrd_zero htag⟩

/-! ### Power-on -/

/-- Settles O7: each value is the one construction gives, and page 0 shows `SYS` as at any zero latches. -/
theorem powerOnValues : Obligations.PowerOnValues := by
  have hcard (k : Fin 4) : State.reset.card.get k = Config.cfg.cards k := by
    simp [State.reset, State.powerOn, Vector.get_eq_getElem]
  exact ⟨rfl, rfl, decodePages_zero_get _, rfl, rfl, rfl, rfl, rfl, rfl, rfl, rfl, rfl, rfl, rfl, rfl, rfl, rfl, rfl, rfl,
    rfl, rfl, rfl, rfl, rfl, rfl, rfl, hcard, rfl, rfl, rfl, rfl⟩

end Sys2Proof.Machine
end
